-- ==== Sys2Proof/Word.lean ====
section
/-! DEFINITION. The byte of the message link and the index types of the part's blocks (00_scope.md, 4.1 and 6). -/

namespace Sys2Proof

/-- One byte of a frame (R179). -/
abbrev Byte := BitVec 8

/-- A head, H0 to H3. -/
abbrev HeadIx := Fin 4
/-- A zone of a head: 0 is RING, 1 to 4 are Z1 to Z4. -/
abbrev ZoneIx := Fin 5
/-- A platen: 0 stands for P1, 1 for P2, 2 for P3. -/
abbrev PlatenIx := Fin 3
/-- A supply line, L0 to L3. -/
abbrev LineIx := Fin 4
/-- A dose class, 0 to 3; 3 is the highest. -/
abbrev ClassIx := Fin 4
/-- A dose record, 0 to 63. -/
abbrev RecIx := Fin 64
/-- A watch, W0 to W15. -/
abbrev WatchIx := Fin 16
/-- A latch, LT0 to LT7. -/
abbrev LatchIx := Fin 8
/-- A pad radial segment, S0 to S9. -/
abbrev SegIx := Fin 10
/-- An analog input channel, 0 to 32. -/
abbrev ChanIx := Fin 33
/-- A monitor output, MO0 or MO1. -/
abbrev MonIx := Fin 2
/-- A carousel position or a station, 0 to 3 (00_scope.md, 4.2). -/
abbrev Station := Fin 4

end Sys2Proof
end

