-- ==== Sys2Proof/Syntax.lean ====
section
/-! DEFINITION. The commands of the part: one constructor per row of spec/opcode_table.json.

The first forty-nine constructors are the requests of R182. Each is a good frame of its kind at the moment it is handed to
dispatch: the TAG of the frame and the bytes of its BODY as received, so that the length test of R182 belongs to the command.
The others are events of the part: frames that are no request, timers that expire, operations that end, samples and wires. -/

namespace Sys2Proof

/-- The source catalogue of R170. A platen argument 0 stands for P1. -/
inductive Source where
  | constant
  | pressure (h : HeadIx) (z : ZoneIx)
  | command (h : HeadIx) (z : ZoneIx)
  | friction (p : PlatenIx)
  | reflectance (p : PlatenIx)
  | torque (p : PlatenIx)
  | flow (l : LineIx)
  | platenReservation (p : PlatenIx)
  | lineReservation (l : LineIx)
  | padLife (p : PlatenIx)
  | latch (i : LatchIx)
  | stepClock (h : HeadIx)
  deriving DecidableEq, Repr

/-- A party that takes an assertion of STOP as an event of its own (R199). The posting of STOP-CHANGE is one of them. -/
inductive StopTaker where
  | notice
  | head (h : HeadIx)
  | pool
  | line (l : LineIx)
  | conditioner (p : PlatenIx)
  | interlock
  deriving DecidableEq, Repr

/-- A user of a source's sample (R171). `autoZero` stands for an auto-zero window that begins at the moment of the first sample. -/
inductive SampleUser where
  | autoZero
  | watch (w : WatchIx)
  | supervision
  | flowCheck
  | conditioner
  | monitor (o : MonIx)
  deriving DecidableEq, Repr

/-- The commands. Where the manual leaves to chance the order in which several parties take one event (R81, R150, R171, R199),
the command carries that order as an operand; parties it does not name follow in their fixed order. -/
inductive Instr where
  -- the part and its settings
  | identify (tag : Byte) (body : List Byte)
  | status (tag : Byte) (body : List Byte)
  | restart (tag : Byte) (body : List Byte)
  | settingsSave (tag : Byte) (body : List Byte)
  -- heads
  | stepLoad (tag : Byte) (body : List Byte)
  | headStart (tag : Byte) (body : List Byte)
  | headHalt (tag : Byte) (body : List Byte)
  | headResume (tag : Byte) (body : List Byte)
  | headFlush (tag : Byte) (body : List Byte)
  | headStandby (tag : Byte) (body : List Byte)
  | trimSet (tag : Byte) (body : List Byte)
  | headLimits (tag : Byte) (body : List Byte)
  | headRead (tag : Byte) (body : List Byte)
  | zoneCal (tag : Byte) (body : List Byte)
  -- platens
  | platenMode (tag : Byte) (body : List Byte)
  | platenConfig (tag : Byte) (body : List Byte)
  | platenRead (tag : Byte) (body : List Byte)
  -- doses
  | doseSubmit (tag : Byte) (body : List Byte)
  | doseCancel (tag : Byte) (body : List Byte)
  | doseRead (tag : Byte) (body : List Byte)
  | doseRelease (tag : Byte) (body : List Byte)
  -- lines
  | lineConfig (tag : Byte) (body : List Byte)
  | lineOpen (tag : Byte) (body : List Byte)
  | lineTeardown (tag : Byte) (body : List Byte)
  | linePrime (tag : Byte) (body : List Byte)
  | lineRead (tag : Byte) (body : List Byte)
  -- conditioners and wear maps
  | condProfile (tag : Byte) (body : List Byte)
  | condRun (tag : Byte) (body : List Byte)
  | condStop (tag : Byte) (body : List Byte)
  | padChange (tag : Byte) (body : List Byte)
  | wearSet (tag : Byte) (body : List Byte)
  | wearRead (tag : Byte) (body : List Byte)
  | wearCommit (tag : Byte) (body : List Byte)
  | wearDiscard (tag : Byte) (body : List Byte)
  | wearRetire (tag : Byte) (body : List Byte)
  -- watches and latches
  | watchDefine (tag : Byte) (body : List Byte)
  | watchArm (tag : Byte) (body : List Byte)
  | watchDisarm (tag : Byte) (body : List Byte)
  | watchExchange (tag : Byte) (body : List Byte)
  | watchRead (tag : Byte) (body : List Byte)
  | latchRead (tag : Byte) (body : List Byte)
  -- signals
  | inputCal (tag : Byte) (body : List Byte)
  | sourceRead (tag : Byte) (body : List Byte)
  | monitorRoute (tag : Byte) (body : List Byte)
  | traceSet (tag : Byte) (body : List Byte)
  -- carousel
  | indexRequest (tag : Byte) (body : List Byte)
  | indexCancel (tag : Byte) (body : List Byte)
  | indexResync (tag : Byte) (body : List Byte)
  | carouselRead (tag : Byte) (body : List Byte)
  -- the link: frames that are no request, and single bytes
  | unknownKind (kind tag : Byte) (body : List Byte)
  | frameDiscard (b : Byte)
  | receiveGapTimeout
  | frameSent
  -- power, start-up and saves
  | powerOn
  | powerLoss
  | startupReadEnd (order : List StopTaker)
  | restartTakesPlace
  | saveWriteEnd
  -- wires
  | stopAssert (order : List StopTaker)
  | stopRelease
  | inPositionChange (level : Bool) (pos : Station)
  -- the carousel's timers
  | liftTimerExpiry
  | indexTimerExpiry
  -- a head's timers
  | headUpdateTimer (h : HeadIx)
  | rampEnd (h : HeadIx)
  | settleTimeExpiry (h : HeadIx)
  | leadTimeExpiry (h : HeadIx)
  | stepTimeLimit (h : HeadIx)
  | overpolishExpiry (h : HeadIx)
  | starveLimitExpiry (h : HeadIx)
  | releaseTimeExpiry (h : HeadIx)
  | autoZeroWindowEnd (h : HeadIx) (z : ZoneIx)
  -- signals and watches
  | sourceSample (src : Source) (raw : BitVec 16) (order : List SampleUser)
  | blankTimeExpiry (w : WatchIx)
  | traceTimerExpiry
  -- doses and lines
  | doseOpeningEnd (r : RecIx)
  | doseMeterTick (r : RecIx)
  | doseSegmentEnd (r : RecIx)
  | doseCapReached (r : RecIx)
  | doseClosingEnd (r : RecIx)
  | primeTimerExpiry (l : LineIx)
  -- conditioners and wear maps
  | condLoweringEnd (p : PlatenIx)
  | condRaisingEnd (p : PlatenIx)
  | condDwellEnd (p : PlatenIx)
  | learnedEntryStale (p : PlatenIx) (seg : SegIx)
  | padLifeTick (p : PlatenIx)
  | byteArrival (b : Byte)
  deriving DecidableEq, Repr

end Sys2Proof
end

