-- ==== Sys2Proof/Decode.lean ====
section
/-! DEFINITION. The command a word spells. The table gives no row any bits, so no word spells a command: a command is a frame, an
event or a wire, whose frames the Link Port reads byte by byte. -/

namespace Sys2Proof

/-- The command a word of `nbits` bits spells: none, because no row of the table has bits. -/
def decodeTableWord (_nbits _w : Nat) : Option Instr := none

end Sys2Proof
end

