-- ==== Sys2Proof/Config.lean ====
section
/-! DEFINITION. What the manual fixes as a size or a time of an operation, and the values it leaves open.

An open value is a constant with no body: nothing can be proved of it, so a claim about it holds whatever it is. -/

namespace Sys2Proof.Config

/-- The most notices the notice queue holds (R188). -/
def noticeCapacity : Nat := 32
/-- The most replies the reply list holds (R189). -/
def replyCapacity : Nat := 16
/-- The longest BODY of a frame, in bytes (R179). -/
def maxBody : Nat := 248
/-- The longest gap between two bytes of one frame, in ms (R180). -/
def maxGap : Nat := 20
/-- The image read of start-up, in ms (R194). -/
def readTime : Nat := 250
/-- The write of a save, in ms (R195). -/
def writeTime : Nat := 800
/-- The opening of a dose, in ms (R95). -/
def openingTime : Nat := 300
/-- The closing of a dose, in ms (R97). -/
def closingTime : Nat := 200
/-- The lowering and the raising of a conditioner, in ms (R130). -/
def armTime : Nat := 600
/-- The period of a head's update timer, in ms (R33). -/
def updatePeriod : Nat := 10
/-- The period of a source's sample timer, in ms (R171). -/
def samplePeriod : Nat := 10
/-- An auto-zero window, in ms (R44). -/
def windowTime : Nat := 1000
/-- The time after which a learned entry turns stale, in ms (R138). -/
def freshTime : Nat := 600000
/-- The hardware revision of IDENTIFY (R190). -/
def revision : Nat := 3
/-- The settings layout version (R190). -/
def layoutVersion : Nat := 2

/-- The torque mean of the `n`-th dwell that ends without one torque sample. R141 divides a sum by a count and states no
result for a count of 0. OPEN VALUE, log entry 6. -/
opaque unsampledTorque : Nat → Int

/-- What HEAD-READ carries in its label field while no step is current. R29 gives the field a flag that says whether a step is
current and states no label for the other case. OPEN VALUE, log entry 7. -/
opaque absentLabel : Nat

/-- What DOSE-READ carries as the duration of a head dose's open-ended segment. R64 and R75 give it no number.
OPEN VALUE, log entry 7. -/
opaque openEndedDuration : Nat

/-- What WEAR-READ carries as the remaining count of an absent host holder. R148 states 0 for continuous and no value for
absent. OPEN VALUE, log entry 7. -/
opaque absentHostCount : Nat

end Sys2Proof.Config
end

