-- ==== Sys2Proof/Machine/Blocks.lean ====
section
/-! DEFINITION. The records of the part's blocks (00_scope.md, 2), as plain data. All times are in ms of the part's clock. -/

namespace Sys2Proof.Machine

/-! ### Heads and zones -/

/-- The nine head states (01, 1.1). -/
inductive HeadState where
  | idle | armed | slurryWait | wetting | pressing | overpolish | starved | releasing | halted
  deriving DecidableEq, Repr

/-- The reasons of HEAD-HALTED (R23). -/
inductive HaltReason where
  | host | stop | watch | pressureDeviation | slurryLost | lineOffline | platenMode | wrongStation | noEndpoint
  | watchMissing | watchBusy
  deriving DecidableEq, Repr

/-- The reasons of STEP-END (R16). -/
inductive StepReason where
  | time | timeLimit | endpoint | advanced | starved | flushed | halted
  deriving DecidableEq, Repr

/-- The standby mode of a head (R26). -/
inductive Standby where
  | vent | chuck
  deriving DecidableEq, Repr

/-- The three zone modes (R31). -/
inductive ZoneMode where
  | vent | vacuum | pressure
  deriving DecidableEq, Repr

/-- A step record (R1), field for field. `line` and `watch` are `none` where the record carries 255. -/
structure Step where
  label : Nat
  platen : PlatenIx
  chain : Bool
  awaitIndex : Bool
  needEndpoint : Bool
  waitDoses : Bool
  condInsitu : Bool
  timeLimit : Nat
  rampTime : Nat
  targets : Vector Nat 5
  line : Option LineIx
  purpose : Nat
  rate : Nat
  lead : Nat
  watch : Option WatchIx
  overpolish : Nat
  deriving DecidableEq, Repr

/-- The two-point regulator calibration of a zone (R40, R41). -/
structure ZoneCal where
  pLo : Nat
  cLo : Nat
  pHi : Nat
  cHi : Nat
  deriving DecidableEq, Repr

/-- A running auto-zero window: when it began and the processed value read then (R44). -/
structure Window where
  start : Nat
  value : Int
  deriving DecidableEq, Repr

/-- The state of one zone of a head (R31 to R46). `code` is the stage 5 code of the last computation; `ramp` the stage 1 value of
the last computation; `lastTrim` the trim that computation used; `deviating` the start of the running deviation timer. -/
structure Zone where
  mode : ZoneMode
  command : Nat
  code : Nat
  rampStart : Int
  ramp : Int
  trim : Int
  lastTrim : Int
  cal : ZoneCal
  offset : Int
  drift : Bool
  window : Option Window
  deviating : Option Nat
  deriving DecidableEq, Repr

/-- Where the pressure supervision stands (R42, R43). -/
inductive Supervision where
  | off
  | ramping
  | settling (since : Nat)
  | testing
  deriving DecidableEq, Repr

/-- The limits and auto-zero bands of a head (R28). -/
structure HeadLimits where
  ringMargin : Nat
  deviationTolerance : Nat
  deviationTime : Nat
  settleTime : Nat
  starveLimit : Nat
  releaseTime : Nat
  captureBand : Nat
  motionBand : Nat
  apertureBand : Nat
  deriving DecidableEq, Repr

/-- A Head Controller. `steps` holds the loaded steps, oldest first; `current` says whether the oldest is current (R3); `held` is
the ended step of STARVED (R20); `entered` is the time of entry to WETTING, OVERPOLISH, STARVED or RELEASING; `pressStart` the
time the step clock started (R11); `frozenClock` its frozen value in STARVED; `dose` the record serving the head (R29). The bound
watch is held by the Watch Unit and the conditioner holder by the conditioner. -/
structure Head where
  state : HeadState
  haltReason : Option HaltReason
  standby : Standby
  steps : List Step
  current : Bool
  held : Option Step
  indexMark : Bool
  marginLimited : Bool
  marginActive : Bool
  snapshot : List RecIx
  dose : Option RecIx
  zones : Vector Zone 5
  limits : HeadLimits
  entered : Nat
  pressStart : Nat
  frozenClock : Nat
  endpoint : Option Nat
  updateDue : Option Nat
  supervision : Supervision
  deriving DecidableEq, Repr

/-! ### Doses -/

/-- The seven record states (R63). -/
inductive DoseState where
  | free | idle | queued | opening | flowing | closing | held
  deriving DecidableEq, Repr

/-- The completion reasons (R62); `none` of an option stands for none. -/
inductive DoseReason where
  | complete | capped | cancelled | released | tornDown | lineFault | platenMode | stopped
  deriving DecidableEq, Repr

/-- The return policies (R73). -/
inductive Policy where
  | notify | silent | hold
  deriving DecidableEq, Repr

/-- One segment: a rate in mL/min and a duration in ms; `none` for the open-ended segment of a head dose (R64). -/
structure Segment where
  rate : Nat
  duration : Option Nat
  deriving DecidableEq, Repr

/-- A dose record (R62). `platen` is `none` for a record never used; `since` is the time of entry to the present state (R75);
`tickDue` the moment at which the next millisecond of FLOWING has passed (R76). -/
structure DoseRec where
  state : DoseState
  sequence : Nat
  label : Nat
  platen : Option PlatenIx
  line : LineIx
  purpose : Nat
  cls : ClassIx
  service : Bool
  policy : Policy
  segments : List Segment
  cap : Option Nat
  peak : Nat
  segment : Nat
  segTime : Nat
  flowTime : Nat
  acc : Nat
  reason : Option DoseReason
  since : Nat
  tickDue : Nat
  deriving DecidableEq, Repr

/-! ### Lines and platens -/

/-- The five line states (R82). -/
inductive LineState where
  | offline | ready | priming | teardown | faulted
  deriving DecidableEq, Repr

/-- The class-choice schemes (R83). -/
inductive Scheme where
  | strict | weighted
  deriving DecidableEq, Repr

/-- The seven configuration items of a line (R83). `weights` is indexed by class, `membership` by platen. -/
structure LineConfig where
  capacity : Nat
  scheme : Scheme
  weights : Vector Nat 4
  membership : Vector Bool 3
  primeTime : Nat
  tolerance : Nat
  faultTime : Nat
  deriving DecidableEq, Repr

/-- A Line Controller. `queues` and `credits` are indexed by class; `admitted` stands in admission order (R87); `primeDue` is the
moment the prime timer expires; `faultSince` the start of the running flow-fault timer (R103); `volume` the line volume total in
rate × ms units (R96); `tornCount`, `tornVolume` and `before` are the figures of the LINE-OFFLINE notice (R100, R101). -/
structure Line where
  state : LineState
  config : LineConfig
  queues : Vector (List RecIx) 4
  admitted : List RecIx
  reservation : Nat
  credits : Vector Nat 4
  stoppedAt : Option RecIx
  primeDue : Option Nat
  faultSince : Option Nat
  volume : Nat
  tornCount : Nat
  tornVolume : Nat
  before : LineState
  deriving DecidableEq, Repr

/-- The five engagement modes (R49). -/
inductive Mode where
  | offline | blocked | wet | conditioning | polishing
  deriving DecidableEq, Repr

/-- The flow limit, the class ceiling and the purpose-to-class map of a platen (R57). -/
structure PlatenConfig where
  flowLimit : Nat
  ceiling : ClassIx
  classes : Vector ClassIx 8
  deriving DecidableEq, Repr

/-- A Platen Controller: the mode, the configuration, the platen reservation (R55) and the next-line pointer (R56). -/
structure Platen where
  mode : Mode
  config : PlatenConfig
  reservation : Nat
  nextLine : LineIx
  deriving DecidableEq, Repr

/-! ### Conditioners and wear maps -/

/-- The four arm states (R127). -/
inductive ArmState where
  | stowed | lowering | sweeping | raising
  deriving DecidableEq, Repr

/-- The end reasons of a lowering (R129), in the order of R137. -/
inductive EndReason where
  | count | hostStop | headEnd | stopped | platenMode | index
  deriving DecidableEq, Repr

/-- The host holder's remaining count (R128). -/
inductive HostHold where
  | continuous
  | sweeps (n : Nat)
  deriving DecidableEq, Repr

/-- The profile of a conditioner (R134). -/
structure Profile where
  baseDwell : Nat
  refTorque : Nat
  downforce : Nat
  deriving DecidableEq, Repr

/-- Where a dwell factor comes from (R139). -/
inductive FactorSource where
  | static | learned | default
  deriving DecidableEq, Repr

/-- A Conditioner Controller. `entered` is the time of entry to LOWERING or RAISING, or of the start of the present dwell; `factor`,
`factorSource` and `dwell` belong to the dwell in progress (R136); `torqueSum` and `torqueCount` gather its torque samples (R141). -/
structure Conditioner where
  arm : ArmState
  host : Option HostHold
  head : Option HeadIx
  profile : Profile
  sweeps : Nat
  learned : Nat
  endReason : Option EndReason
  segment : SegIx
  inward : Bool
  factor : Nat
  factorSource : FactorSource
  dwell : Nat
  entered : Nat
  torqueSum : Int
  torqueCount : Nat
  deriving DecidableEq, Repr

/-- A static wear entry (R138). -/
structure StaticEntry where
  valid : Bool
  override : Bool
  factor : Nat
  deriving DecidableEq, Repr

/-- A learned wear entry (R138). `updated` is the time of its last update while it may be fresh, `none` for an entry that is stale
or was never updated. -/
structure LearnedEntry where
  valid : Bool
  torque : Nat
  updated : Option Nat
  deriving DecidableEq, Repr

/-- A Wear Map. `remainder` is the sub-second remainder of the pad life in ms; `ticked` the moment up to which pressing has been
counted (R144). -/
structure WearMap where
  statics : Vector StaticEntry 10
  learned : Vector LearnedEntry 10
  life : Nat
  remainder : Nat
  ticked : Nat
  deriving DecidableEq, Repr

/-! ### Watches -/

/-- The six watch states (R109). -/
inductive WatchState where
  | undefined | disarmed | blanking | watching | holding | fired
  deriving DecidableEq, Repr

/-- The four relations (R115). -/
inductive Relation where
  | above | below | rises | falls
  deriving DecidableEq, Repr

/-- The four actions (R118, R119). -/
inductive WatchAction where
  | notify | advance | halt | latch
  deriving DecidableEq, Repr

/-- The outcomes of a firing (R117). -/
inductive WatchOutcome where
  | performed | noEffect | clamped | endpoint
  deriving DecidableEq, Repr

/-- A latch destination (R108). The zone byte of a latch is carried and not read (10.4). -/
inductive LatchDest where
  | latch (i : LatchIx) (zoneByte : Byte)
  | trim (h : HeadIx) (z : ZoneIx)
  deriving DecidableEq, Repr

/-- A watch definition (R108). -/
structure WatchDef where
  source : Source
  relation : Relation
  threshold : Int
  count : Nat
  window : Nat
  blank : Nat
  hold : Nat
  action : WatchAction
  target : HeadIx
  dest : LatchDest
  copy : Source
  repeats : Bool
  deriving DecidableEq, Repr

/-- A watch: its definition and its working state (R108). `history` stands oldest first; `blankStart` is the arming of a watch in
BLANKING. -/
structure Watch where
  state : WatchState
  defn : WatchDef
  history : List Int
  prevAvg : Option Int
  crossed : Bool
  holdStart : Option Nat
  bound : Option HeadIx
  blankStart : Nat
  firings : Nat
  deriving DecidableEq, Repr

/-- A latch: its value and its last writer (R125). -/
structure Latch where
  value : Int
  writer : Option WatchIx
  deriving DecidableEq, Repr

/-! ### Carousel -/

/-- The five carousel states (R153). -/
inductive CarState where
  | idle | pending | lifting | moving | fault
  deriving DecidableEq, Repr

/-- The two phases of MOVING (R158). -/
inductive Phase where
  | departing | arriving
  deriving DecidableEq, Repr

/-- The last outcome of CAROUSEL-READ (R163). -/
inductive LastOutcome where
  | done | abandoned | misposition | timeout | stop
  deriving DecidableEq, Repr

/-- The carousel outcome of start-up (R164). -/
inductive CarouselOutcome where
  | positioned | unpositioned
  deriving DecidableEq, Repr

/-- The Carousel Interlock. `acceptedAt` is the time of the INDEX-REQUEST's acceptance; `lifted` says whether the lift timer of the
present LIFTING has expired (R157). -/
structure Carousel where
  state : CarState
  position : Station
  start : Station
  acceptedAt : Nat
  liftTime : Nat
  indexTimeout : Nat
  liftStart : Nat
  lifted : Bool
  moveStart : Nat
  phase : Phase
  last : Option LastOutcome
  outcome : CarouselOutcome
  deriving DecidableEq, Repr

/-! ### Signal Hub -/

/-- The two-point calibration of an input channel (R167). -/
structure InputCal where
  rawLo : Nat
  vLo : Int
  rawHi : Nat
  vHi : Int
  deriving DecidableEq, Repr

/-- An input channel: its calibration, its latest raw code and its latest scaled value (R166). -/
structure Channel where
  cal : InputCal
  raw : Nat
  scaled : Int
  deriving DecidableEq, Repr

/-- A monitor route (R173). -/
structure Route where
  source : Source
  zero : Int
  full : Int
  deriving DecidableEq, Repr

/-- A monitor output: its route and its code (R173). -/
structure Monitor where
  route : Route
  code : Nat
  deriving DecidableEq, Repr

/-- The trace gate (R175). -/
inductive Gate where
  | off | always | whilePressing
  deriving DecidableEq, Repr

/-- The trace setting, its timer and its record counter (R175, R176). `setAt` is the accepted TRACE-SET; `due` the next expiry. -/
structure Trace where
  gate : Gate
  head : HeadIx
  sources : List Source
  interval : Nat
  setAt : Nat
  due : Option Nat
  counter : Nat
  deriving DecidableEq, Repr

/-- A trace record (R176). -/
structure TraceRecord where
  sequence : Nat
  time : Nat
  gate : Gate
  head : HeadIx
  overwritten : Nat
  values : List Int
  deriving DecidableEq, Repr

/-- The Signal Hub. `sampled` gives for each source of the catalogue the time of its last sample, `none` before its first; `flows`
the latest sample of each flow source, which a new calibration does not rescale (R105, R169); `startedAt` is the moment of STARTED,
at which the sample timers take their first expiry (R171). -/
structure Hub where
  channels : Vector Channel 33
  sampled : Vector (Option Nat) 76
  flows : Vector Int 4
  startedAt : Nat
  monitors : Vector Monitor 2
  trace : Trace
  deriving DecidableEq, Repr

/-! ### Settings Store -/

/-- The configuration rows of the stored image (R193). -/
structure ConfigRows where
  zoneCals : Vector (Vector ZoneCal 5) 4
  limits : Vector HeadLimits 4
  inputCals : Vector InputCal 33
  lines : Vector LineConfig 4
  platens : Vector PlatenConfig 3
  profiles : Vector Profile 3
  statics : Vector (Vector StaticEntry 10) 3
  routes : Vector Route 2
  liftTime : Nat
  indexTimeout : Nat
  deriving DecidableEq, Repr

/-- A committed learned entry: its valid flag and its L (R146). -/
structure CommittedEntry where
  valid : Bool
  torque : Nat
  deriving DecidableEq, Repr

/-- The committed part of one platen (R193). -/
structure Committed where
  entries : Vector CommittedEntry 10
  life : Nat
  deriving DecidableEq, Repr

/-- The stored image: whether its signature is the valid value, its layout version and its items (R193, R194). -/
structure Image where
  signed : Bool
  version : Nat
  config : ConfigRows
  committed : Vector Committed 3
  deriving DecidableEq, Repr

/-- The cause of a save (R195). -/
inductive SaveCause where
  | settingsSave
  | wearCommit (p : PlatenIx)
  | wearRetire (p : PlatenIx)
  deriving DecidableEq, Repr

/-- What a save writes, captured at its acceptance (R195, R196), and when it began. -/
structure SaveJob where
  cause : SaveCause
  config : ConfigRows
  committed : Vector Committed 3
  since : Nat
  deriving DecidableEq, Repr

/-- The save state: `signed` is a save whose signature is written and whose SAVE-END a restart keeps from being posted (R198). -/
inductive Save where
  | none
  | writing (job : SaveJob)
  | signed
  deriving DecidableEq, Repr

/-- The settings outcome of a start-up (R194). -/
inductive SettingsOutcome where
  | loaded | defaulted
  deriving DecidableEq, Repr

/-- The Settings Store: the image, the working copies of R193, the save state and the settings outcome. -/
structure Store where
  image : Image
  workConfig : ConfigRows
  workCommitted : Vector Committed 3
  save : Save
  outcome : SettingsOutcome
  deriving DecidableEq, Repr

/-! ### Link Port -/

/-- The cause of a start-up (R197). -/
inductive StartCause where
  | powerOn | restart
  deriving DecidableEq, Repr

/-- A frame without its SYNC, LEN and CHECK, which follow from it (R179). -/
structure Frame where
  kind : Byte
  tag : Byte
  body : List Byte
  deriving DecidableEq, Repr

/-- A received byte with the time of its arrival (R180). -/
structure RxByte where
  value : Byte
  time : Nat
  deriving DecidableEq, Repr

/-- The receiver (R180): HUNTING, or COLLECTING with the sync byte taken and the bytes received since, oldest first. -/
inductive Receiver where
  | hunting
  | collecting (sync : RxByte) (since : List RxByte)
  deriving DecidableEq, Repr

/-- The outcome of an index (R159). -/
inductive IndexOutcome where
  | done
  | abandonedHost
  | abandonedStop
  deriving DecidableEq, Repr

/-- The reason of INDEX-FAULT, with the POS read for MISPOSITION (R160). -/
inductive FaultReason where
  | misposition (pos : Station)
  | timeout
  | stop
  deriving DecidableEq, Repr

/-- The notices of 10.4, TRACE apart, with the fields their rules give them. -/
inductive Notice where
  | started (cause : StartCause) (settings : SettingsOutcome) (carousel : CarouselOutcome) (position : Station) (stop : Bool)
  | stepEnd (head : HeadIx) (label : Nat) (reason : StepReason) (elapsed : Nat) (marginLimited : Bool) (endpoint : Option Nat)
  | headHalted (head : HeadIx) (reason : HaltReason) (zone : Option ZoneIx) (watch : Option WatchIx)
  | doseEnd (record : RecIx) (sequence label : Nat) (platen : Option PlatenIx) (line : LineIx) (cls : ClassIx)
      (reason : Option DoseReason) (volume flowTime segment : Nat)
  | lineOffline (line : LineIx) (count volume : Nat) (before : LineState)
  | lineFault (line : LineIx) (before : LineState) (expected : Nat) (measured : Int) (closed : Nat)
  | watchFired (watch : WatchIx) (average value threshold : Int) (bound : Option HeadIx) (action : WatchAction)
      (outcome : WatchOutcome) (firings : Nat)
  | condEnd (platen : PlatenIx) (reason : Option EndReason) (sweeps : Nat) (segment : SegIx) (learned : Nat) (holders : Bool)
  | indexEnd (outcome : IndexOutcome) (start position : Station) (left : CarState) (duration : Nat)
  | indexFault (reason : FaultReason) (position : Station) (phase : Phase) (moving : Nat)
  | stopChange (level : Bool)
  | saveEnd (cause : SaveCause)
  deriving DecidableEq, Repr

/-- The Link Port: the receiver, the reply list, the notice queue, the notice-loss flag, the trace slot and the frame the
transmitter is sending. `held` is the model's own: while it is set an idle transmitter makes no choice. It is set while a request is
being judged, whose reply takes its place on the reply list at the request's arrival (R189), and from the end of a RESTART's reply on
when nothing more keeps the restart waiting (R192). -/
structure Link where
  rx : Receiver
  replies : List Frame
  notices : List Notice
  loss : Bool
  slot : Option TraceRecord
  tx : Option Frame
  held : Bool
  deriving DecidableEq, Repr

/-- Whether the part has power, is in start-up or runs (R197). -/
inductive Power where
  | off
  | starting (cause : StartCause) (since : Nat)
  | running
  deriving DecidableEq, Repr

/-- Where an accepted RESTART stands (R198): none, its reply not yet sent, its reply sent. -/
inductive Restart where
  | none
  | replyWaiting
  | replySent
  deriving DecidableEq, Repr

end Sys2Proof.Machine
end

