-- ==== Sys2Proof/Machine/Defaults.lean ====
section
/-! DEFINITION. The defaults of every stored item, and the values every block takes at power-on and at RESTART. -/

namespace Sys2Proof.Machine

/-! ### Defaults of the stored items (R193) -/

/-- The default calibration of a zone: RING to 8000, Z1 to Z4 to 6000 (R41). -/
def ZoneCal.default (z : ZoneIx) : ZoneCal := ⟨0, 0, if z = 0 then 8000 else 6000, 4095⟩

/-- The default head limits and bands (R28). -/
def HeadLimits.default : HeadLimits := ⟨500, 300, 500, 300, 2000, 500, 50, 10, 200⟩

/-- The default calibration of an input channel, by its group (9.2.2). -/
def InputCal.default (c : ChanIx) : InputCal :=
  ⟨0, 0, 65535, if c.val < 20 then 10000 else if c.val < 23 then 30000 else if c.val < 26 then 1000
    else if c.val < 29 then 5000 else 1200⟩

/-- The default line configuration (R83); the weights stand for classes 0, 1, 2, 3. -/
def LineConfig.default : LineConfig :=
  ⟨600, .weighted, #v[1, 2, 3, 6], #v[true, true, true], 3000, 20, 2000⟩

/-- The default platen configuration (R58). -/
def PlatenConfig.default : PlatenConfig := ⟨500, 3, #v[0, 0, 1, 1, 2, 2, 3, 3]⟩

/-- The default profile (R134). -/
def Profile.default : Profile := ⟨200, 450, 2000⟩

/-- The default static entry (R143). -/
def StaticEntry.default : StaticEntry := ⟨false, false, 256⟩

/-- The default route of both monitor outputs (R174). -/
def Route.default : Route := ⟨.constant, 0, 4095⟩

/-- The configuration rows of a defaulted start-up (R193). -/
def ConfigRows.default : ConfigRows where
  zoneCals := Vector.replicate 4 (Vector.ofFn ZoneCal.default)
  limits := Vector.replicate 4 HeadLimits.default
  inputCals := Vector.ofFn InputCal.default
  lines := Vector.replicate 4 LineConfig.default
  platens := Vector.replicate 3 PlatenConfig.default
  profiles := Vector.replicate 3 Profile.default
  statics := Vector.replicate 3 (Vector.replicate 10 StaticEntry.default)
  routes := Vector.replicate 2 Route.default
  liftTime := 1500
  indexTimeout := 6000

/-- The committed part of one platen of a defaulted start-up (R193): every entry invalid, pad life 0. DESIGN CHOICE (log entry 20): the L
of such an entry, which R151 leaves open, is 0. -/
def Committed.default : Committed := ⟨Vector.replicate 10 ⟨false, 0⟩, 0⟩

/-! ### Power-on values of the blocks -/

/-- A zone at power-on (R30, R48), with its calibration. -/
def Zone.powerOn (cal : ZoneCal) : Zone where
  mode := .vent
  command := 0
  code := 0
  rampStart := 0
  ramp := 0
  trim := 0
  lastTrim := 0
  cal := cal
  offset := 0
  drift := false
  window := none
  deviating := none

/-- A head at power-on (R30), with its limits and zone calibrations. -/
def Head.powerOn (limits : HeadLimits) (cals : Vector ZoneCal 5) : Head where
  state := .idle
  haltReason := none
  standby := .vent
  steps := []
  current := false
  held := none
  indexMark := false
  marginLimited := false
  marginActive := false
  snapshot := []
  dose := none
  zones := Vector.ofFn fun z => Zone.powerOn cals[z]
  limits := limits
  entered := 0
  pressStart := 0
  frozenClock := 0
  endpoint := none
  updateDue := none
  supervision := .off

/-- A dose record at power-on (R75, R80): records 0 to 7 are IDLE, the others FREE. -/
def DoseRec.powerOn (r : RecIx) : DoseRec where
  state := if r.val < 8 then .idle else .free
  sequence := 0
  label := 0
  platen := none
  line := 0
  purpose := 0
  cls := 0
  service := false
  policy := if r.val < 8 then .silent else .notify
  segments := []
  cap := none
  peak := 0
  segment := 0
  segTime := 0
  flowTime := 0
  acc := 0
  reason := none
  since := 0
  tickDue := 0

/-- The free list at power-on: records 8 to 63 in rising order (R65). -/
def freeAtPowerOn : List RecIx := (List.finRange 64).filter fun r => 8 ≤ r.val

/-- A line at power-on (R106): OFFLINE, its credits at the weights. -/
def Line.powerOn (c : LineConfig) : Line where
  state := .offline
  config := c
  queues := Vector.replicate 4 []
  admitted := []
  reservation := 0
  credits := c.weights
  stoppedAt := none
  primeDue := none
  faultSince := none
  volume := 0
  tornCount := 0
  tornVolume := 0
  before := .offline

/-- A platen at power-on (R60). -/
def Platen.powerOn (c : PlatenConfig) : Platen := ⟨.offline, c, 0, 0⟩

/-- A conditioner at power-on (R151). -/
def Conditioner.powerOn (p : Profile) : Conditioner where
  arm := .stowed
  host := none
  head := none
  profile := p
  sweeps := 0
  learned := 0
  endReason := none
  segment := 0
  inward := false
  factor := 0
  factorSource := .static
  dwell := 0
  entered := 0
  torqueSum := 0
  torqueCount := 0

/-- A wear map at power-on (R151): a committed valid entry loads valid and stale with its L. -/
def WearMap.powerOn (statics : Vector StaticEntry 10) (c : Committed) : WearMap where
  statics := statics
  learned := Vector.ofFn fun s : SegIx => ⟨c.entries[s].valid, c.entries[s].torque, none⟩
  life := c.life
  remainder := 0
  ticked := 0

/-- The all-zero definition of an UNDEFINED watch (R124). -/
def WatchDef.zero : WatchDef where
  source := .constant
  relation := .above
  threshold := 0
  count := 0
  window := 0
  blank := 0
  hold := 0
  action := .notify
  target := 0
  dest := .latch 0 0
  copy := .constant
  repeats := false

/-- A watch at power-on (R126). -/
def Watch.powerOn : Watch where
  state := .undefined
  defn := WatchDef.zero
  history := []
  prevAvg := none
  crossed := false
  holdStart := none
  bound := none
  blankStart := 0
  firings := 0

/-- The interlock at power-on (R164), with the two timing settings. The state until IN-POSITION is read is FAULT, "the position
is not known". DESIGN CHOICE (log entry 4). -/
def Carousel.powerOn (liftTime indexTimeout : Nat) : Carousel where
  state := .fault
  position := 0
  start := 0
  acceptedAt := 0
  liftTime := liftTime
  indexTimeout := indexTimeout
  liftStart := 0
  lifted := false
  moveStart := 0
  phase := .departing
  last := none
  outcome := .unpositioned

/-- The hub at power-on (R177). -/
def Hub.powerOn (cals : Vector InputCal 33) (routes : Vector Route 2) : Hub where
  channels := Vector.ofFn fun c : ChanIx => ⟨cals[c], 0, 0⟩
  sampled := Vector.replicate 76 none
  flows := Vector.replicate 4 0
  startedAt := 0
  monitors := Vector.ofFn fun o : MonIx => ⟨routes[o], 0⟩
  trace := ⟨.off, 0, [], 10, 0, none, 0⟩

/-- The Link Port at power-on (R192). -/
def Link.powerOn : Link where
  rx := .hunting
  replies := []
  notices := []
  loss := false
  slot := none
  tx := none
  held := false

/-- The stored image of a part that has never completed a save: no valid signature. DESIGN CHOICE (log entry 3). -/
def Image.blank : Image := ⟨false, Config.layoutVersion, ConfigRows.default, Vector.replicate 3 Committed.default⟩

/-- The Settings Store at a start-up that finds the image `i`. Until the image is read the working copies hold the defaults and
the settings outcome is DEFAULTED. DESIGN CHOICE (log entry 4). -/
def Store.powerOn (i : Image) : Store :=
  ⟨i, ConfigRows.default, Vector.replicate 3 Committed.default, .none, .defaulted⟩

end Sys2Proof.Machine
end

