-- ==== Sys2Proof/Machine/State.lean ====
section
/-! DEFINITION. The whole state of the part, as plain data, with its reset value, and the reasons a step can stop. -/

namespace Sys2Proof.Machine

/-- The reasons a step can fault. There is none: the manual gives every command an effect in every state, so no meaning faults. -/
inductive Fault where
  deriving DecidableEq, Repr

/-- The reasons a step can be refused. -/
inductive Refusal where
  /-- Raised by exec's arm of a command that has no meaning yet, by its mnemonic. SAFE: the model stops. No arm raises it. -/
  | notModelled (mnemonic : String)
  deriving DecidableEq, Repr

/-- The state of the part.

`pending` is the queue of the commands that are waiting, first in, first out (the model's own). `now` is the part's clock in ms
(the model's own, log entry 1), from which every elapsed time is formed. `stop`, `inPosition` and `pos` are the levels of the input
wires (00_scope.md, 2.2). `free` and `counter` are the free list and the submission counter of the Dose Pool (R65, R69). `draws`
counts the open values drawn from Config (the model's own, log entry 6). -/
structure State where
  pending : List Instr
  now : Nat
  power : Power
  restart : Restart
  stop : Bool
  inPosition : Bool
  pos : Station
  heads : Vector Head 4
  recs : Vector DoseRec 64
  free : List RecIx
  counter : Nat
  lines : Vector Line 4
  platens : Vector Platen 3
  conds : Vector Conditioner 3
  wears : Vector WearMap 3
  watches : Vector Watch 16
  latches : Vector Latch 8
  car : Carousel
  hub : Hub
  store : Store
  link : Link
  draws : Nat
  deriving DecidableEq, Repr

/-- The part right after power-on: every block at its power-on values, start-up begun with cause POWER-ON, the image not yet read
(R197, item 1). The input wires read released, deasserted and 0, the clock and the draws 0. DESIGN CHOICE (log entry 2). -/
def State.reset : State where
  pending := []
  now := 0
  power := .starting .powerOn 0
  restart := .none
  stop := false
  inPosition := false
  pos := 0
  heads := Vector.replicate 4 (Head.powerOn HeadLimits.default (Vector.ofFn ZoneCal.default))
  recs := Vector.ofFn DoseRec.powerOn
  free := freeAtPowerOn
  counter := 0
  lines := Vector.replicate 4 (Line.powerOn LineConfig.default)
  platens := Vector.replicate 3 (Platen.powerOn PlatenConfig.default)
  conds := Vector.replicate 3 (Conditioner.powerOn Profile.default)
  wears := Vector.replicate 3 (WearMap.powerOn (Vector.replicate 10 StaticEntry.default) Committed.default)
  watches := Vector.replicate 16 Watch.powerOn
  latches := Vector.replicate 8 ⟨0, none⟩
  car := Carousel.powerOn 1500 6000
  hub := Hub.powerOn (Vector.ofFn InputCal.default) (Vector.replicate 2 Route.default)
  store := Store.powerOn Image.blank
  link := Link.powerOn
  draws := 0

end Sys2Proof.Machine
end

