-- ==== Sys2Proof/Machine/Ops.lean ====
section
/-! DEFINITION. The named operations over the state: one updater per kind of record, the clock, and the arithmetic of 00_scope.md, 4.4. -/

namespace Sys2Proof.Machine

/-- What a command or a step answers. -/
abbrev Outcome := Host.Outcome State Fault Refusal

/-! ### Updaters -/

/-- Changes head `h`. -/
def State.modHead (s : State) (h : HeadIx) (f : Head → Head) : State :=
  { s with heads := s.heads.set h.val (f s.heads[h.val]) }

/-- Changes dose record `r`. -/
def State.modRec (s : State) (r : RecIx) (f : DoseRec → DoseRec) : State :=
  { s with recs := s.recs.set r.val (f s.recs[r.val]) }

/-- Changes line `l`. -/
def State.modLine (s : State) (l : LineIx) (f : Line → Line) : State :=
  { s with lines := s.lines.set l.val (f s.lines[l.val]) }

/-- Changes platen `p`. -/
def State.modPlaten (s : State) (p : PlatenIx) (f : Platen → Platen) : State :=
  { s with platens := s.platens.set p.val (f s.platens[p.val]) }

/-- Changes the conditioner of platen `p`. -/
def State.modCond (s : State) (p : PlatenIx) (f : Conditioner → Conditioner) : State :=
  { s with conds := s.conds.set p.val (f s.conds[p.val]) }

/-- Changes the wear map of platen `p`. -/
def State.modWear (s : State) (p : PlatenIx) (f : WearMap → WearMap) : State :=
  { s with wears := s.wears.set p.val (f s.wears[p.val]) }

/-- Changes watch `w`. -/
def State.modWatch (s : State) (w : WatchIx) (f : Watch → Watch) : State :=
  { s with watches := s.watches.set w.val (f s.watches[w.val]) }

/-- Changes latch `i`. -/
def State.modLatch (s : State) (i : LatchIx) (f : Latch → Latch) : State :=
  { s with latches := s.latches.set i.val (f s.latches[i.val]) }

/-- Changes the Carousel Interlock. -/
def State.modCar (s : State) (f : Carousel → Carousel) : State := { s with car := f s.car }

/-- Changes the Signal Hub. -/
def State.modHub (s : State) (f : Hub → Hub) : State := { s with hub := f s.hub }

/-- Changes the Settings Store. -/
def State.modStore (s : State) (f : Store → Store) : State := { s with store := f s.store }

/-- Changes the Link Port. -/
def State.modLink (s : State) (f : Link → Link) : State := { s with link := f s.link }

/-- Changes zone `z` of a head. -/
def Head.modZone (d : Head) (z : ZoneIx) (f : Zone → Zone) : Head :=
  { d with zones := d.zones.set z.val (f d.zones[z.val]) }

/-- Changes the five zones of a head together. -/
def Head.mapZones (d : Head) (f : ZoneIx → Zone → Zone) : Head :=
  { d with zones := Vector.ofFn fun z => f z d.zones[z.val] }

/-- Changes static entry `g` of a wear map. -/
def WearMap.modStatic (m : WearMap) (g : SegIx) (f : StaticEntry → StaticEntry) : WearMap :=
  { m with statics := m.statics.set g.val (f m.statics[g.val]) }

/-- Changes learned entry `g` of a wear map. -/
def WearMap.modLearned (m : WearMap) (g : SegIx) (f : LearnedEntry → LearnedEntry) : WearMap :=
  { m with learned := m.learned.set g.val (f m.learned[g.val]) }

/-! ### The clock -/

/-- The part's clock has come to `t`, if it was not past it. A timer's expiry takes place at the moment the timer was set to, so
the command that is the expiry brings the clock there (log entry 1). -/
def State.reach (s : State) (t : Nat) : State := { s with now := max s.now t }

/-- Whether the part runs: start-up has ended and power has not been lost (R197). -/
def State.running (s : State) : Bool := s.power == .running

/-- The effect `f` of an event that has one only in a part that runs. -/
def State.whenRunning (s : State) (f : State → State) : State := if s.running then f s else s

/-! ### Arithmetic (00_scope.md, 4.4) -/

/-- `x` clamped to the range `lo` to `hi`. -/
def clampInt (lo hi x : Int) : Int := if x < lo then lo else if hi < x then hi else x

/-- The quotient of `n` by a positive `d`, rounded to nearest, ties away from zero. -/
def roundDiv (n : Int) (d : Nat) : Int :=
  if 0 ≤ n then ((2 * n.natAbs + d) / (2 * d) : Nat) else -(((2 * n.natAbs + d) / (2 * d) : Nat) : Int)

/-- The quotient of `n` by `d`, truncated toward zero. -/
def truncDiv (n d : Int) : Int := n.tdiv d

/-- `n` held at `top` once there. -/
def holdAt (top n : Nat) : Nat := min top n

/-- The largest unsigned 32-bit value, at which many counts are held. -/
def max32 : Nat := 4294967295

/-- The limit of the 48-bit counts of R76 and R96. -/
def max48 : Nat := 281474976710655

/-- The smallest and the largest signed 32-bit values (R168). -/
def clamp32 (x : Int) : Int := clampInt (-2147483648) 2147483647 x

/-- An index read from a number: `none` when there is no such index. -/
def toIx (k n : Nat) : Option (Fin k) := if h : n < k then some ⟨n, h⟩ else none

/-- A platen read from its number, 1 to 3. -/
def toPlaten (n : Nat) : Option PlatenIx := if n = 0 then none else toIx 3 (n - 1)

/-- Applies `f` for each element of a list in turn. -/
def forEach {α : Type} (xs : List α) (f : α → State → State) (s : State) : State :=
  xs.foldl (fun s x => f x s) s

/-- The order in which the parties take an event: those the command names, then the others in their fixed order, each once. -/
def completeOrder {α : Type} [BEq α] (named all : List α) : List α := named.eraseDups ++ all.filter fun x => !named.contains x

/-- The four heads in rising order. -/
def allHeads : List HeadIx := [0, 1, 2, 3]
/-- The four lines in rising order. -/
def allLines : List LineIx := [0, 1, 2, 3]
/-- The three platens in rising order. -/
def allPlatens : List PlatenIx := [0, 1, 2]
/-- The five zones, RING first. -/
def allZones : List ZoneIx := [0, 1, 2, 3, 4]
/-- The sixteen watches in rising order. -/
def allWatches : List WatchIx := List.finRange 16

end Sys2Proof.Machine
end

