-- ==== Sys2Proof/Machine/Flags.lean ====
section
/-! DEFINITION. The result codes and flags of a reply (R183), the notice flags of a TAG (R188), and the code of every named value.

A code the manual gives is that code; where it gives none, the code is the place of the value in the list where the field is given,
and 255 stands for none (10.4). -/

namespace Sys2Proof.Machine

/-- The fourteen result codes (R183). -/
inductive Result where
  | ok | unknownKind | badLength | badValue | wrongState | slotsFull | poolEmpty | notMember | lineOffline | inUse | busy
  | stopped | indexing | notInPosition
  deriving DecidableEq, Repr

/-- The code of a result (R183). -/
def Result.code : Result → Nat
  | .ok => 0 | .unknownKind => 1 | .badLength => 2 | .badValue => 3 | .wrongState => 4 | .slotsFull => 5 | .poolEmpty => 6
  | .notMember => 7 | .lineOffline => 8 | .inUse => 9 | .busy => 10 | .stopped => 11 | .indexing => 12 | .notInPosition => 13

/-- What a block answers to a request: a result, the two flags and, with OK, a payload (R183). -/
structure Response where
  result : Result
  clamped : Bool
  notPerformed : Bool
  payload : List Byte
  deriving DecidableEq, Repr

/-- An acceptance with its payload. -/
def Response.ok (payload : List Byte) : Response := ⟨.ok, false, false, payload⟩

/-- A refusal. -/
def Response.refuse (r : Result) : Response := ⟨r, false, false, []⟩

/-- An acceptance of an advisory request that had nothing to do. -/
def Response.idle (payload : List Byte) : Response := ⟨.ok, false, true, payload⟩

/-- A byte of a number below 256. -/
def b1 (n : Nat) : Byte := BitVec.ofNat 8 n

/-- The code of a field that is set or clear, present or absent (10.4). -/
def bit (b : Bool) : Nat := if b then 1 else 0

/-- The body of a reply: result, flags (bit 0 clamped, bit 1 not performed) and payload (R183). -/
def Response.body (r : Response) : List Byte :=
  b1 r.result.code :: b1 (bit r.clamped + 2 * bit r.notPerformed) :: r.payload

/-- The KIND of the reply to a request KIND (R183). -/
def replyKind (kind : Byte) : Byte := if kind < 0x80 then kind + 0x80 else 0xFF

/-- The notice flags in the TAG of a notice frame: bit 0 notice loss, bit 7 set (R188). -/
def noticeTag (loss : Bool) : Byte := b1 (128 + bit loss)

/-- The code of an optional index: 255 for none. -/
def optCode (o : Option Nat) : Nat := o.getD 255

/-- Head states (R191). -/
def HeadState.code : HeadState → Nat
  | .idle => 0 | .armed => 1 | .slurryWait => 2 | .wetting => 3 | .pressing => 4 | .overpolish => 5 | .starved => 6
  | .releasing => 7 | .halted => 8

/-- Halt reasons, in the order of R23. -/
def HaltReason.code : HaltReason → Nat
  | .host => 0 | .stop => 1 | .watch => 2 | .pressureDeviation => 3 | .slurryLost => 4 | .lineOffline => 5 | .platenMode => 6
  | .wrongStation => 7 | .noEndpoint => 8 | .watchMissing => 9 | .watchBusy => 10

/-- STEP-END reasons (R186). -/
def StepReason.code : StepReason → Nat
  | .time => 0 | .timeLimit => 1 | .endpoint => 2 | .advanced => 3 | .starved => 4 | .flushed => 5 | .halted => 6

/-- Standby modes, in the order of R26. -/
def Standby.code : Standby → Nat
  | .vent => 0 | .chuck => 1

/-- Zone modes, in the order of R29. -/
def ZoneMode.code : ZoneMode → Nat
  | .vent => 0 | .vacuum => 1 | .pressure => 2

/-- Record states, in the order of R62. -/
def DoseState.code : DoseState → Nat
  | .free => 0 | .idle => 1 | .queued => 2 | .opening => 3 | .flowing => 4 | .closing => 5 | .held => 6

/-- Completion reasons (R187), 0 for none. -/
def DoseReason.code : Option DoseReason → Nat
  | none => 0 | some .complete => 1 | some .capped => 2 | some .cancelled => 3 | some .released => 4 | some .tornDown => 5
  | some .lineFault => 6 | some .platenMode => 7 | some .stopped => 8

/-- Return policies (R185). -/
def Policy.code : Policy → Nat
  | .notify => 0 | .silent => 1 | .hold => 2

/-- Line states (R82). -/
def LineState.code : LineState → Nat
  | .offline => 0 | .ready => 1 | .priming => 2 | .teardown => 3 | .faulted => 4

/-- Schemes (R83). -/
def Scheme.code : Scheme → Nat
  | .strict => 0 | .weighted => 1

/-- Engagement modes (R49). -/
def Mode.code : Mode → Nat
  | .offline => 0 | .blocked => 1 | .wet => 2 | .conditioning => 3 | .polishing => 4

/-- Arm states (R127). -/
def ArmState.code : ArmState → Nat
  | .stowed => 0 | .lowering => 1 | .sweeping => 2 | .raising => 3

/-- End reasons: the reason of COND-END in the order of R137's field list; 255 for none. DESIGN CHOICE (log entry 36): the end reason of
WEAR-READ, whose values R148 does not list, takes the same codes, though the table of R129 stands in another order. -/
def EndReason.code : Option EndReason → Nat
  | some .count => 0 | some .hostStop => 1 | some .headEnd => 2 | some .stopped => 3 | some .platenMode => 4 | some .index => 5
  | none => 255

/-- Factor sources, in the order of R136. -/
def FactorSource.code : FactorSource → Nat
  | .static => 0 | .learned => 1 | .default => 2

/-- Watch states (R109). -/
def WatchState.code : WatchState → Nat
  | .undefined => 0 | .disarmed => 1 | .blanking => 2 | .watching => 3 | .holding => 4 | .fired => 5

/-- Relations (R108). -/
def Relation.code : Relation → Nat
  | .above => 0 | .below => 1 | .rises => 2 | .falls => 3

/-- Actions (R108). -/
def WatchAction.code : WatchAction → Nat
  | .notify => 0 | .advance => 1 | .halt => 2 | .latch => 3

/-- Firing outcomes, in the order of R117. -/
def WatchOutcome.code : WatchOutcome → Nat
  | .performed => 0 | .noEffect => 1 | .clamped => 2 | .endpoint => 3

/-- Carousel states (R153). -/
def CarState.code : CarState → Nat
  | .idle => 0 | .pending => 1 | .lifting => 2 | .moving => 3 | .fault => 4

/-- Phases, in the order of R163. -/
def Phase.code : Phase → Nat
  | .departing => 0 | .arriving => 1

/-- Last outcomes, in the order of R163; 255 for none. -/
def LastOutcome.code : Option LastOutcome → Nat
  | some .done => 0 | some .abandoned => 1 | some .misposition => 2 | some .timeout => 3 | some .stop => 4 | none => 255

/-- Carousel outcomes (R197). -/
def CarouselOutcome.code : CarouselOutcome → Nat
  | .positioned => 0 | .unpositioned => 1

/-- Settings outcomes (R191). -/
def SettingsOutcome.code : SettingsOutcome → Nat
  | .loaded => 0 | .defaulted => 1

/-- Start-up causes (R197). -/
def StartCause.code : StartCause → Nat
  | .powerOn => 0 | .restart => 1

/-- Trace gates (R175). -/
def Gate.code : Gate → Nat
  | .off => 0 | .always => 1 | .whilePressing => 2

/-- The number of a platen, 1 to 3 (4.1). -/
def platenNo (p : PlatenIx) : Nat := p.val + 1

/-- The five permissions of a mode (R49): slurry. -/
def Mode.slurry (m : Mode) : Bool := 2 ≤ m.code
/-- Service slurry (R49). -/
def Mode.service (m : Mode) : Bool := 1 ≤ m.code
/-- Press (R49). -/
def Mode.press (m : Mode) : Bool := m.code = 4
/-- Condition (R49). -/
def Mode.condition (m : Mode) : Bool := 3 ≤ m.code
/-- Learn (R49). -/
def Mode.learn (m : Mode) : Bool := 3 ≤ m.code

/-- A head is pressing in PRESSING and in OVERPOLISH (01, 1.1). -/
def HeadState.isPressing : HeadState → Bool
  | .pressing | .overpolish => true
  | _ => false

end Sys2Proof.Machine
end

