-- ==== Sys2Proof/Machine/Operands.lean ====
section
/-! DEFINITION. The bytes of a BODY: the byte order of 4.5, the widths of 10.4, the source IDs of R170, and what each request's
BODY says. A parser answers `none` exactly where the length test of R182 fails. -/

namespace Sys2Proof.Machine

/-! ### Byte order -/

/-- The byte at an offset, as an unsigned number. -/
def u8 (b : List Byte) (o : Nat) : Nat := (b.getD o 0).toNat
/-- Two bytes at an offset, most significant first. -/
def u16 (b : List Byte) (o : Nat) : Nat := 256 * u8 b o + u8 b (o + 1)
/-- Four bytes at an offset, most significant first. -/
def u32 (b : List Byte) (o : Nat) : Nat := 65536 * u16 b o + u16 b (o + 2)
/-- A two's complement number of two bytes. -/
def i16 (b : List Byte) (o : Nat) : Int := (BitVec.ofNat 16 (u16 b o)).toInt
/-- A two's complement number of four bytes. -/
def i32 (b : List Byte) (o : Nat) : Int := (BitVec.ofNat 32 (u32 b o)).toInt

/-- One byte. -/
def p1 (n : Nat) : List Byte := [b1 n]
/-- Two bytes, most significant first. -/
def p2 (n : Nat) : List Byte := [b1 (n / 256), b1 n]
/-- Four bytes, most significant first. -/
def p4 (n : Nat) : List Byte := p2 (n / 65536) ++ p2 n
/-- Two bytes in two's complement. -/
def s2 (x : Int) : List Byte := p2 (x % 65536).toNat
/-- Four bytes in two's complement. -/
def s4 (x : Int) : List Byte := p4 (x % 4294967296).toNat
/-- Several values in order, each by `f`. -/
def many {α : Type} (f : α → List Byte) (xs : List α) : List Byte := xs.flatMap f
/-- A set of up to eight members as one byte, bit 0 for the lowest-numbered (10.4). -/
def setByte (members : List Bool) : List Byte :=
  p1 (members.foldr (fun b n => bit b + 2 * n) 0)

/-! ### Sources (R170) -/

/-- The source ID of a source. -/
def Source.id : Source → Nat
  | .constant => 0x00
  | .pressure h z => 0x10 + 8 * h.val + z.val
  | .command h z => 0x30 + 8 * h.val + z.val
  | .friction p => 0x50 + platenNo p
  | .reflectance p => 0x54 + platenNo p
  | .torque p => 0x58 + platenNo p
  | .flow l => 0x60 + l.val
  | .platenReservation p => 0x64 + platenNo p
  | .lineReservation l => 0x68 + l.val
  | .padLife p => 0x6C + platenNo p
  | .latch i => 0x70 + i.val
  | .stepClock h => 0x78 + h.val

/-- Every source of the catalogue, in rising order of ID. -/
def allSources : List Source :=
  [.constant]
    ++ allHeads.flatMap (fun h => allZones.map (Source.pressure h))
    ++ allHeads.flatMap (fun h => allZones.map (Source.command h))
    ++ allPlatens.map Source.friction ++ allPlatens.map Source.reflectance ++ allPlatens.map Source.torque
    ++ allLines.map Source.flow ++ allPlatens.map Source.platenReservation ++ allLines.map Source.lineReservation
    ++ allPlatens.map Source.padLife ++ (List.finRange 8).map Source.latch ++ allHeads.map Source.stepClock

/-- The source with an ID; `none` for an unknown source ID (R170). -/
def sourceOf (id : Nat) : Option Source := allSources.find? fun src => Source.id src == id

/-- The place of a source's sample timer in the hub. -/
def Source.place : Source → Fin 76
  | .constant => 0
  | .pressure h z => ⟨1 + 5 * h.val + z.val, by omega⟩
  | .command h z => ⟨21 + 5 * h.val + z.val, by omega⟩
  | .friction p => ⟨41 + p.val, by omega⟩
  | .reflectance p => ⟨44 + p.val, by omega⟩
  | .torque p => ⟨47 + p.val, by omega⟩
  | .flow l => ⟨50 + l.val, by omega⟩
  | .platenReservation p => ⟨54 + p.val, by omega⟩
  | .lineReservation l => ⟨57 + l.val, by omega⟩
  | .padLife p => ⟨61 + p.val, by omega⟩
  | .latch i => ⟨64 + i.val, by omega⟩
  | .stepClock h => ⟨72 + h.val, by omega⟩

/-- The transducer channel of a zone, 5h + z (R166). -/
def zoneChannel (h : HeadIx) (z : ZoneIx) : ChanIx := ⟨5 * h.val + z.val, by omega⟩

/-- The input channel of a channel source (R166, R170). -/
def Source.channel : Source → Option ChanIx
  | .pressure h z => some (zoneChannel h z)
  | .friction p => some ⟨20 + p.val, by omega⟩
  | .reflectance p => some ⟨23 + p.val, by omega⟩
  | .torque p => some ⟨26 + p.val, by omega⟩
  | .flow l => some ⟨29 + l.val, by omega⟩
  | _ => none

/-! ### Bodies of the requests (10.4, R184, R185) -/

/-- A body of no bytes. -/
def parseEmpty (b : List Byte) : Option Unit := if b.length = 0 then some () else none

/-- A body of one byte, an index. -/
def parseOne (b : List Byte) : Option Nat := if b.length = 1 then some (u8 b 0) else none

/-- A body of two bytes, an index and a code. -/
def parseTwo (b : List Byte) : Option (Nat × Nat) := if b.length = 2 then some (u8 b 0, u8 b 1) else none

/-- The fields of STEP-LOAD as received (R184). -/
structure StepBody where
  head : Nat
  label : Nat
  platen : Nat
  flags : Nat
  timeLimit : Nat
  rampTime : Nat
  targets : Vector Nat 5
  line : Nat
  purpose : Nat
  rate : Nat
  lead : Nat
  watch : Nat
  overpolish : Nat
  deriving DecidableEq, Repr

/-- The body of STEP-LOAD (R184). -/
def parseStep (b : List Byte) : Option StepBody :=
  if b.length = 30 then
    some ⟨u8 b 0, u16 b 1, u8 b 3, u8 b 4, u32 b 5, u16 b 9,
      #v[u16 b 11, u16 b 13, u16 b 15, u16 b 17, u16 b 19], u8 b 21, u8 b 22, u16 b 23, u16 b 25, u8 b 27, u16 b 28⟩
  else none

/-- Flag `k` of a flag set. -/
def flagOf (flags k : Nat) : Bool := flags / 2 ^ k % 2 == 1

/-- The step record of a body, with its platen (R1, R184). -/
def StepBody.step (q : StepBody) (p : PlatenIx) : Step where
  label := q.label
  platen := p
  chain := flagOf q.flags 0
  awaitIndex := flagOf q.flags 1
  needEndpoint := flagOf q.flags 2
  waitDoses := flagOf q.flags 3
  condInsitu := flagOf q.flags 4
  timeLimit := q.timeLimit
  rampTime := q.rampTime
  targets := q.targets
  line := toIx 4 q.line
  purpose := q.purpose
  rate := q.rate
  lead := q.lead
  watch := toIx 16 q.watch
  overpolish := q.overpolish

/-- The range check of STEP-LOAD (R2, check 1), the head and the platen apart: those two are read as indices. -/
def StepBody.inRange (q : StepBody) : Bool :=
  (1 ≤ q.timeLimit && q.timeLimit ≤ 600000) && q.rampTime ≤ 60000
    && (q.line < 4 || q.line == 255)
    && (q.line == 255 || (q.purpose ≤ 7 && (1 ≤ q.rate && q.rate ≤ 600) && q.lead ≤ 30000))
    && (q.watch < 16 || q.watch == 255)
    && (q.watch == 255 || q.overpolish ≤ 60000)
    && q.flags < 32
    && !(flagOf q.flags 2 && q.watch == 255)

/-- TRIM-SET: a head and five trims (R27). -/
structure TrimBody where
  head : Nat
  trims : Vector Int 5
  deriving DecidableEq, Repr

/-- The body of TRIM-SET. -/
def parseTrim (b : List Byte) : Option TrimBody :=
  if b.length = 11 then some ⟨u8 b 0, #v[i16 b 1, i16 b 3, i16 b 5, i16 b 7, i16 b 9]⟩ else none

/-- The body of HEAD-LIMITS: a head and nine values (R28). -/
def parseLimits (b : List Byte) : Option (Nat × HeadLimits) :=
  if b.length = 19 then
    some (u8 b 0, ⟨u16 b 1, u16 b 3, u16 b 5, u16 b 7, u16 b 9, u16 b 11, u16 b 13, u16 b 15, u16 b 17⟩)
  else none

/-- The ranges of HEAD-LIMITS (R28). -/
def HeadLimits.inRange (m : HeadLimits) : Bool :=
  m.ringMargin ≤ 3000 && (50 ≤ m.deviationTolerance && m.deviationTolerance ≤ 2000)
    && (100 ≤ m.deviationTime && m.deviationTime ≤ 5000) && m.settleTime ≤ 2000 && m.starveLimit ≤ 10000
    && (100 ≤ m.releaseTime && m.releaseTime ≤ 5000) && m.captureBand ≤ 500 && m.motionBand ≤ 200 && m.apertureBand ≤ 2000

/-- ZONE-CAL: a head, a zone and two points (R41). -/
structure ZoneCalBody where
  head : Nat
  zone : Nat
  cal : ZoneCal
  deriving DecidableEq, Repr

/-- The body of ZONE-CAL. -/
def parseZoneCal (b : List Byte) : Option ZoneCalBody :=
  if b.length = 10 then some ⟨u8 b 0, u8 b 1, ⟨u16 b 2, u16 b 4, u16 b 6, u16 b 8⟩⟩ else none

/-- The points of a zone calibration are in range and in order (R41). -/
def ZoneCal.valid (c : ZoneCal) : Bool :=
  c.pLo ≤ 8000 && c.pHi ≤ 8000 && c.cLo ≤ 4095 && c.cHi ≤ 4095 && c.pLo < c.pHi

/-- PLATEN-CONFIG as received (R57). -/
structure PlatenConfigBody where
  platen : Nat
  flowLimit : Nat
  ceiling : Nat
  classes : Vector Nat 8
  deriving DecidableEq, Repr

/-- The body of PLATEN-CONFIG. -/
def parsePlatenConfig (b : List Byte) : Option PlatenConfigBody :=
  if b.length = 12 then
    some ⟨u8 b 0, u16 b 1, u8 b 3, #v[u8 b 4, u8 b 5, u8 b 6, u8 b 7, u8 b 8, u8 b 9, u8 b 10, u8 b 11]⟩
  else none

/-- The configuration a PLATEN-CONFIG names; `none` where check 1 of R57 fails on it. -/
def PlatenConfigBody.config (q : PlatenConfigBody) : Option PlatenConfig :=
  if 50 ≤ q.flowLimit && q.flowLimit ≤ 1200 && q.ceiling < 4 && q.classes.toList.all (· < 4) then
    some ⟨q.flowLimit, Fin.ofNat 4 q.ceiling, Vector.ofFn fun i => Fin.ofNat 4 q.classes[i.val]⟩
  else none

/-- DOSE-SUBMIT as received (R66, R185). -/
structure DoseBody where
  label : Nat
  platen : Nat
  line : Nat
  purpose : Nat
  policy : Nat
  flags : Nat
  cap : Nat
  segments : List (Nat × Nat)
  deriving DecidableEq, Repr

/-- The body of DOSE-SUBMIT: at least 14 bytes, and 14 plus 6 times the segment count (R182, R185). -/
def parseDose (b : List Byte) : Option DoseBody :=
  if 14 ≤ b.length && b.length == 14 + 6 * u16 b 8 then
    some ⟨u16 b 0, u8 b 2, u8 b 3, u8 b 4, u8 b 5, u16 b 6, u32 b 10,
      (List.range (u16 b 8)).map fun i => (u16 b (14 + 6 * i), u32 b (16 + 6 * i))⟩
  else none

/-- Check 1 of DOSE-SUBMIT (R66), the platen and the line apart: those two are read as indices. -/
def DoseBody.inRange (q : DoseBody) : Bool :=
  q.purpose ≤ 7 && q.flags ≤ 1 && q.policy ≤ 2 && (1 ≤ q.segments.length && q.segments.length ≤ 4)
    && q.segments.all (fun g => g.1 ≤ 600 && 100 ≤ g.2 && g.2 ≤ 600000) && q.cap ≤ 100000

/-- The segment sum of R67, in rate × ms units. -/
def DoseBody.sum (q : DoseBody) : Nat := (q.segments.map fun g => g.1 * g.2).sum

/-- The peak, the largest segment rate (R62). -/
def DoseBody.peak (q : DoseBody) : Nat := (q.segments.map Prod.fst).foldl max 0

/-- The policy with a code (R185). -/
def policyOf : Nat → Policy
  | 0 => .notify
  | 1 => .silent
  | _ => .hold

/-- LINE-CONFIG as received (R83). -/
structure LineConfigBody where
  line : Nat
  capacity : Nat
  scheme : Nat
  weights : Vector Nat 4
  membership : Nat
  primeTime : Nat
  tolerance : Nat
  faultTime : Nat
  deriving DecidableEq, Repr

/-- The body of LINE-CONFIG; its weights stand for classes 3, 2, 1, 0 and are kept by class. -/
def parseLineConfig (b : List Byte) : Option LineConfigBody :=
  if b.length = 14 then
    some ⟨u8 b 0, u16 b 1, u8 b 3, #v[u8 b 7, u8 b 6, u8 b 5, u8 b 4], u8 b 8, u16 b 9, u8 b 11, u16 b 12⟩
  else none

/-- The configuration a LINE-CONFIG names; `none` where check 1 of R83 fails on it. -/
def LineConfigBody.config (q : LineConfigBody) : Option LineConfig :=
  if 50 ≤ q.capacity && q.capacity ≤ 1200 && q.scheme < 2 && q.weights.toList.all (fun w => 1 ≤ w && w ≤ 127)
      && q.membership < 8 && 500 ≤ q.primeTime && q.primeTime ≤ 20000 && 5 ≤ q.tolerance && q.tolerance ≤ 50
      && 500 ≤ q.faultTime && q.faultTime ≤ 10000 then
    some ⟨q.capacity, if q.scheme = 0 then .strict else .weighted, q.weights,
      #v[flagOf q.membership 0, flagOf q.membership 1, flagOf q.membership 2], q.primeTime, q.tolerance, q.faultTime⟩
  else none

/-- The body of COND-PROFILE: a platen and three values (R134). -/
def parseProfile (b : List Byte) : Option (Nat × Profile) :=
  if b.length = 7 then some (u8 b 0, ⟨u16 b 1, u16 b 3, u16 b 5⟩) else none

/-- The ranges of COND-PROFILE (R134). -/
def Profile.inRange (f : Profile) : Bool :=
  50 ≤ f.baseDwell && f.baseDwell ≤ 2000 && 1 ≤ f.refTorque && f.refTorque ≤ 5000 && f.downforce ≤ 4095

/-- The body of COND-RUN: a platen and a sweep count (R131). -/
def parseRun (b : List Byte) : Option (Nat × Nat) := if b.length = 3 then some (u8 b 0, u16 b 1) else none

/-- WEAR-SET as received (R143). -/
structure WearSetBody where
  platen : Nat
  segment : Nat
  valid : Nat
  override : Nat
  factor : Nat
  deriving DecidableEq, Repr

/-- The body of WEAR-SET. -/
def parseWearSet (b : List Byte) : Option WearSetBody :=
  if b.length = 6 then some ⟨u8 b 0, u8 b 1, u8 b 2, u8 b 3, u16 b 4⟩ else none

/-- WATCH-DEFINE as received (R108, R110). -/
structure WatchBody where
  watch : Nat
  source : Nat
  relation : Nat
  threshold : Int
  count : Nat
  window : Nat
  blank : Nat
  hold : Nat
  action : Nat
  target : Nat
  destType : Nat
  destNumber : Nat
  destZone : Nat
  copy : Nat
  repeats : Nat
  deriving DecidableEq, Repr

/-- The body of WATCH-DEFINE. -/
def parseWatch (b : List Byte) : Option WatchBody :=
  if b.length = 23 then
    some ⟨u8 b 0, u8 b 1, u8 b 2, i32 b 3, u8 b 7, u32 b 8, u16 b 12, u16 b 14, u8 b 16, u8 b 17, u8 b 18, u8 b 19, u8 b 20,
      u8 b 21, u8 b 22⟩
  else none

/-- The relation with a code (R108). -/
def relationOf : Nat → Option Relation
  | 0 => some .above
  | 1 => some .below
  | 2 => some .rises
  | 3 => some .falls
  | _ => none

/-- The action with a code (R108). -/
def actionOf : Nat → Option WatchAction
  | 0 => some .notify
  | 1 => some .advance
  | 2 => some .halt
  | 3 => some .latch
  | _ => none

/-- The latch destination of three bytes (10.4). -/
def destOf (ty number zone : Nat) : Option LatchDest :=
  match ty with
  | 0 => (toIx 8 number).map fun i => .latch i (b1 zone)
  | 1 => (toIx 4 number).bind fun h => (toIx 5 zone).map fun z => .trim h z
  | _ => none

/-- The definition a WATCH-DEFINE names; `none` where check 1 of R110 fails on it. -/
def WatchBody.defn (q : WatchBody) : Option WatchDef :=
  match sourceOf q.source, relationOf q.relation, actionOf q.action, toIx 4 q.target, destOf q.destType q.destNumber q.destZone,
      sourceOf q.copy with
  | some src, some rel, some act, some tgt, some dst, some cpy =>
    if 1 ≤ q.count && q.count ≤ 64 && q.window ≤ 2147483647 && q.blank ≤ 60000 && q.hold ≤ 10000 && q.repeats < 2 then
      some ⟨src, rel, q.threshold, q.count, q.window, q.blank, q.hold, act, tgt, dst, cpy, q.repeats == 1⟩
    else none
  | _, _, _, _, _, _ => none

/-- The body of WATCH-EXCHANGE: a watch and a threshold (R123). -/
def parseExchange (b : List Byte) : Option (Nat × Int) := if b.length = 5 then some (u8 b 0, i32 b 1) else none

/-- The body of INPUT-CAL: a channel and two points (R167). -/
def parseInputCal (b : List Byte) : Option (Nat × InputCal) :=
  if b.length = 13 then some (u8 b 0, ⟨u16 b 1, i32 b 3, u16 b 7, i32 b 9⟩) else none

/-- The body of MONITOR-ROUTE: an output, a source ID, a zero and a full value (R174). -/
def parseRoute (b : List Byte) : Option (Nat × Nat × Int × Int) :=
  if b.length = 10 then some (u8 b 0, u8 b 1, i32 b 2, i32 b 6) else none

/-- TRACE-SET as received (R175). -/
structure TraceBody where
  gate : Nat
  head : Nat
  count : Nat
  sources : List Nat
  interval : Nat
  deriving DecidableEq, Repr

/-- The body of TRACE-SET; of the four source bytes the first source-count are read (10.4). -/
def parseTrace (b : List Byte) : Option TraceBody :=
  if b.length = 9 then
    some ⟨u8 b 0, u8 b 1, u8 b 2, [u8 b 3, u8 b 4, u8 b 5, u8 b 6].take (u8 b 2), u16 b 7⟩
  else none

/-- The gate with a code (R175). -/
def gateOf : Nat → Option Gate
  | 0 => some .off
  | 1 => some .always
  | 2 => some .whilePressing
  | _ => none

/-- The body of INDEX-REQUEST: a lift time and an index timeout (R154). -/
def parseIndex (b : List Byte) : Option (Nat × Nat) := if b.length = 4 then some (u16 b 0, u16 b 2) else none

end Sys2Proof.Machine
end

