-- ==== Sys2Proof/Machine/LinkOps.lean ====
section
/-! DEFINITION. The Link Port's shared operations: frames and their CHECK (R179), the bodies of notices, the notice queue (R188), the
transmitter's choice (R189), the finding of frames among received bytes (R180), and the arrival of a request (R182, R183). -/

namespace Sys2Proof.Machine

/-! ### Frames (R179) -/

/-- One bit into the CHECK register: shift left, and combine with 0x1021 when the bit shifted out differs from the data bit. -/
def crcBit (r : BitVec 16) (b : Bool) : BitVec 16 := if r.msb != b then (r <<< 1) ^^^ 0x1021 else r <<< 1

/-- One byte into the CHECK register, most significant bit first. -/
def crcByte (r : BitVec 16) (x : Byte) : BitVec 16 :=
  [7, 6, 5, 4, 3, 2, 1, 0].foldl (fun r i => crcBit r (x.getLsbD i)) r

/-- The CHECK over the bytes from LEN to the end of BODY; the register starts at 0xFFFF. -/
def crc (bytes : List Byte) : BitVec 16 := bytes.foldl crcByte 0xFFFF

/-- The bytes of a frame after its SYNC: LEN, KIND, TAG, BODY and CHECK, high byte first. -/
def Frame.afterSync (f : Frame) : List Byte :=
  let covered := b1 (f.body.length + 2) :: f.kind :: f.tag :: f.body
  covered ++ p2 (crc covered).toNat

/-- The bytes of a frame on the link. -/
def Frame.bytes (f : Frame) : List Byte := 0xA5 :: f.afterSync

/-! ### Bodies of notices -/

/-- The KIND of a notice (10.4). -/
def Notice.kind : Notice → Byte
  | .started .. => 0xC0
  | .stepEnd .. => 0xC1
  | .headHalted .. => 0xC2
  | .doseEnd .. => 0xC3
  | .lineOffline .. => 0xC4
  | .lineFault .. => 0xC5
  | .watchFired .. => 0xC6
  | .condEnd .. => 0xC7
  | .indexEnd .. => 0xC8
  | .indexFault .. => 0xC9
  | .stopChange .. => 0xCA
  | .saveEnd .. => 0xCB

/-- The KIND of a TRACE notice (10.4). -/
def traceKind : Byte := 0xCC

/-- The outcome and cause codes of INDEX-END: DONE 0, ABANDONED 1; HOST 0, STOP 1, none 255 (R159). -/
def IndexOutcome.codes : IndexOutcome → List Byte
  | .done => p1 0 ++ p1 255
  | .abandonedHost => p1 1 ++ p1 0
  | .abandonedStop => p1 1 ++ p1 1

/-- The reason code of INDEX-FAULT (R160). -/
def FaultReason.code : FaultReason → Nat
  | .misposition _ => 0
  | .timeout => 1
  | .stop => 2

/-- The POS read of INDEX-FAULT: 255 for TIMEOUT and STOP (R160). -/
def FaultReason.posRead : FaultReason → Nat
  | .misposition p => p.val
  | .timeout => 255
  | .stop => 255

/-- The cause and the platen of SAVE-END (R195). -/
def SaveCause.codes : SaveCause → List Byte
  | .settingsSave => p1 0 ++ p1 0
  | .wearCommit p => p1 1 ++ p1 (platenNo p)
  | .wearRetire p => p1 2 ++ p1 (platenNo p)

/-- The number of an optional platen, 0 for none (R62). -/
def optPlaten (p : Option PlatenIx) : Nat := (p.map platenNo).getD 0

/-- The body of a notice, its fields in the order and with the widths of 10.4, R186 and R187. -/
def Notice.body : Notice → List Byte
  | .started cause settings carousel position stop =>
    p1 cause.code ++ p1 settings.code ++ p1 carousel.code ++ p1 position.val ++ p1 (bit stop)
  | .stepEnd h label reason elapsed limited endpoint =>
    p1 h.val ++ p2 label ++ p1 reason.code ++ p4 elapsed ++ p1 (bit limited + 2 * bit endpoint.isSome) ++ p4 (endpoint.getD 0)
  | .headHalted h reason zone watch =>
    p1 h.val ++ p1 reason.code ++ p1 (optCode (zone.map (·.val))) ++ p1 (optCode (watch.map (·.val)))
  | .doseEnd r sequence label platen line cls reason volume flowTime segment =>
    p1 r.val ++ p4 sequence ++ p2 label ++ p1 (optPlaten platen) ++ p1 line.val ++ p1 cls.val ++ p1 (DoseReason.code reason)
      ++ p4 volume ++ p4 flowTime ++ p1 segment
  | .lineOffline l count volume before => p1 l.val ++ p1 count ++ p4 volume ++ p1 before.code
  | .lineFault l before expected measured closed =>
    p1 l.val ++ p1 before.code ++ p2 expected ++ s4 measured ++ p1 closed
  | .watchFired w average value threshold bound action outcome firings =>
    p1 w.val ++ s4 average ++ s4 value ++ s4 threshold ++ p1 (optCode (bound.map (·.val))) ++ p1 action.code ++ p1 outcome.code
      ++ p2 firings
  | .condEnd p reason sweeps segment learned holders =>
    p1 (platenNo p) ++ p1 (EndReason.code reason) ++ p2 sweeps ++ p1 segment.val ++ p2 learned ++ p1 (bit holders)
  | .indexEnd outcome start position left duration =>
    outcome.codes ++ p1 start.val ++ p1 position.val ++ p1 left.code ++ p4 duration
  | .indexFault reason position phase moving =>
    p1 reason.code ++ p1 position.val ++ p1 reason.posRead ++ p1 phase.code ++ p2 moving
  | .stopChange level => p1 (bit level)
  | .saveEnd cause => cause.codes

/-- The body of a TRACE notice (R176). -/
def TraceRecord.body (t : TraceRecord) : List Byte :=
  p2 t.sequence ++ p4 t.time ++ p1 t.gate.code ++ p1 t.head.val ++ p1 t.overwritten ++ p1 t.values.length ++ many s4 t.values

/-! ### The transmitter (R189) -/

/-- The transmitter's choice by rank: the oldest reply, the notice at the head of the queue, the trace record, or nothing. A notice
frame takes the notice-loss flag into its TAG at the start of its sending and clears it (R188). -/
def Link.choose (k : Link) : Link :=
  match k.replies, k.notices, k.slot with
  | f :: rest, _, _ => { k with replies := rest, tx := some f }
  | [], n :: rest, _ => { k with notices := rest, tx := some ⟨n.kind, noticeTag k.loss, n.body⟩, loss := false }
  | [], [], some t => { k with slot := none, tx := some ⟨traceKind, noticeTag k.loss, t.body⟩, loss := false }
  | [], [], none => { k with tx := none }

/-- The choice of an idle transmitter when something waits for it. It makes none while a request is being judged, whose reply holds the
first rank, nor once only the restart itself is left of an accepted RESTART. -/
def Link.kick (k : Link) : Link := if k.tx.isNone && !k.held then k.choose else k

/-- The transmitter stands idle until the restart: it begins neither a notice nor the trace record that waits (R192). -/
def Link.stand (k : Link) : Link := { k with tx := none, held := true }

/-- Places a notice at the tail of the queue, or discards it and sets the notice-loss flag when the queue is full (R188). -/
def Link.post (k : Link) (n : Notice) : Link :=
  (if k.notices.length < Config.noticeCapacity then { k with notices := k.notices ++ [n] } else { k with loss := true }).kick

/-- Places a reply at the tail of the reply list (R189). -/
def Link.placeReply (k : Link) (f : Frame) : Link := { k with replies := k.replies ++ [f], held := false }.kick

/-- Places a record in the trace slot (R176). -/
def Link.placeTrace (k : Link) (t : TraceRecord) : Link := { k with slot := some t }.kick

/-- A block posts a notice. -/
def State.post (s : State) (n : Notice) : State := s.modLink (·.post n)

/-- Whether the receiver is open (R181): not before STARTED, not after an accepted RESTART, not while the reply list is full. -/
def State.isOpen (s : State) : Bool :=
  s.running && s.restart == .none && s.link.replies.length < Config.replyCapacity

/-! ### Frames among the received bytes (R180) -/

/-- What the bytes since a sync byte make: a frame not yet complete, a frame to discard, or a good frame with the bytes after it. -/
inductive Found where
  | incomplete
  | bad
  | good (kind tag : Byte) (body : List Byte) (rest : List RxByte)
  deriving DecidableEq, Repr

/-- No gap between two bytes exceeds 20 ms, from a byte at time `t` on. -/
def gapsFit : Nat → List RxByte → Bool
  | _, [] => true
  | t, x :: rest => x.time - t ≤ Config.maxGap && gapsFit x.time rest

/-- The arrival time of the last of the bytes, `t` when there is none. -/
def lastTime : Nat → List RxByte → Nat
  | t, [] => t
  | _, x :: rest => lastTime x.time rest

/-- Judges the bytes received since a sync byte. `expired` says that the gap since the last byte has exceeded 20 ms. -/
def readFrame (expired : Bool) (now : Nat) (sync : RxByte) (since : List RxByte) : Found :=
  let unfinished := if expired || Config.maxGap < now - lastTime sync.time since then Found.bad else .incomplete
  match since with
  | [] => unfinished
  | len :: _ =>
    let n := len.value.toNat
    if n < 2 || 250 < n || !gapsFit sync.time (since.take (n + 3)) then .bad
    else if since.length < n + 3 then unfinished
    else
      let covered := (since.take (n + 1)).map (·.value)
      let check := ((since.drop (n + 1)).take 2).map (·.value)
      if check == p2 (crc covered).toNat then
        .good (covered.getD 1 0) (covered.getD 2 0) (covered.drop 3) (since.drop (n + 3))
      else .bad

/-- The next byte of 0xA5, and the bytes after it. -/
def nextSync : List RxByte → Option (RxByte × List RxByte)
  | [] => none
  | x :: rest => if x.value = 0xA5 then some (x, rest) else nextSync rest

/-- Hunts and collects over bytes while the receiver is closed: every complete frame is discarded, good or not (R181). -/
def huntClosed (expired : Bool) (now : Nat) : Nat → List RxByte → Receiver
  | 0, _ => .hunting
  | fuel + 1, bytes =>
    match nextSync bytes with
    | none => .hunting
    | some (sync, rest) =>
      match readFrame expired now sync rest with
      | .incomplete => .collecting sync rest
      | _ => huntClosed expired now fuel rest

/-! ### Requests -/

/-- What a block does with the BODY of a request: its answer and its effect. -/
abbrev Handler := List Byte → State → Response × State

/-- The arrival of a request, a good frame of a request kind (R182). The receiver is back in HUNTING; the block judges the request
and acts at once; the reply is formed from the state as the request has left it and placed on the reply list (R183, R189). While
the receiver is closed the frame is discarded silently and the receiver rescans its bytes (R180, R181); without power there is
no receiver. -/
def arrive (kind tag : Byte) (body : List Byte) (f : Handler) (s : State) : State :=
  if s.isOpen then
    let r := f body (s.modLink fun k => { k with rx := .hunting, held := true })
    r.2.modLink (·.placeReply ⟨replyKind kind, tag, r.1.body⟩)
  else if s.power = .off then s
  else
    let bytes := (Frame.afterSync ⟨kind, tag, body⟩).map fun b => (⟨b, s.now⟩ : RxByte)
    s.modLink fun k => { k with rx := huntClosed false s.now bytes.length bytes }

/-- The handler of a request whose BODY `parse` reads: BAD-LENGTH where it does not (R182, test 2). -/
def withBody {α : Type} (parse : List Byte → Option α) (f : α → State → Response × State) : Handler := fun body s =>
  match parse body with
  | none => (.refuse .badLength, s)
  | some q => f q s

/-- The handler of a request that names one index below `k`: BAD-VALUE where there is no such index. -/
def withIx (k : Nat) (f : Fin k → State → Response × State) : Nat → State → Response × State := fun n s =>
  match toIx k n with
  | none => (.refuse .badValue, s)
  | some i => f i s

/-- The handler of a request that names one platen, 1 to 3. -/
def withPlaten (f : PlatenIx → State → Response × State) : Nat → State → Response × State := fun n s =>
  match toPlaten n with
  | none => (.refuse .badValue, s)
  | some p => f p s

end Sys2Proof.Machine
end

