-- ==== Sys2Proof/Machine/ZoneOps.lean ====
section
/-! DEFINITION. Scaled and processed values (R168), zone modes (R31, R32), the five stages of a zone command (R33 to R40), the settle
period (R43) and the auto-zero windows (R44). -/

namespace Sys2Proof.Machine

/-! ### Scaling -/

/-- The scaled value of a raw code (R168). -/
def InputCal.scale (c : InputCal) (raw : Nat) : Int :=
  clamp32 (c.vLo + roundDiv (((raw : Int) - c.rawLo) * (c.vHi - c.vLo)) (c.rawHi - c.rawLo))

/-- The processed value of the transducer of zone `z` of head `h`: the latest scaled value less the present offset (R168). -/
def State.processed (s : State) (h : HeadIx) (z : ZoneIx) : Int :=
  clamp32 (s.hub.channels[(zoneChannel h z).val].scaled - s.heads[h.val].zones[z.val].offset)

/-! ### The stages -/

/-- Stage 1: the ramp value from start value, target, ramp time and elapsed time (R34). -/
def rampValue (start target : Int) (time elapsed : Nat) : Int :=
  if time ≤ elapsed then target else start + truncDiv ((target - start) * elapsed) time

/-- The greatest command of a zone before the margin: RING 8000, Z1 to Z4 6000 (R37). -/
def zoneMax (z : ZoneIx) : Int := if z = 0 then 8000 else 6000

/-- Stage 3: the clamp (R37). -/
def stage3 (z : ZoneIx) (x : Int) : Int := clampInt 0 (zoneMax z) x

/-- Stage 4: the RING and Z4 commands for clamped values `r` and `z` under the ring margin `m`, and whether an adjustment was made
(R38). -/
def ringMargin (m r z : Int) : Int × Int × Bool :=
  if z + m ≤ r then (r, z, false)
  else if z + m ≤ 8000 then (z + m, z, true)
  else (8000, 8000 - m, true)

/-- Stage 5: the regulator code of a command (R40). -/
def ZoneCal.codeOf (c : ZoneCal) (p : Nat) : Nat :=
  (clampInt 0 4095 (c.cLo + roundDiv (((p : Int) - c.pLo) * ((c.cHi : Int) - c.cLo)) (c.pHi - c.pLo))).toNat

/-- The code on a zone's regulator: its stage 5 code in PRESSURE, 0 in VENT and VACUUM (R31). -/
def Zone.regulator (z : Zone) : Nat := if z.mode = .pressure then z.code else 0

/-- Whether a zone's vent valve is open (R31). -/
def Zone.ventOpen (z : Zone) : Bool := z.mode == .vent

/-- Whether a zone's vacuum valve is open (R31). -/
def Zone.vacuumOpen (z : Zone) : Bool := z.mode == .vacuum

/-- The step a head works for: the current step, or the held step in STARVED. -/
def Head.workStep (d : Head) : Option Step := if d.state = .starved then d.held else if d.current then d.steps.head? else none

/-- The step clock: the ms since entry to PRESSING in PRESSING and OVERPOLISH, the frozen value in STARVED, 0 elsewhere (R29). -/
def Head.clock (d : Head) (now : Nat) : Nat :=
  match d.state with
  | .pressing | .overpolish => now - d.pressStart
  | .starved => d.frozenClock
  | _ => 0

/-- The stage 1 value of a zone in the head's present state (R33). -/
def Head.stage1 (d : Head) (now : Nat) (z : ZoneIx) : Int :=
  match d.state with
  | .starved => d.zones[z.val].ramp
  | .releasing => rampValue d.zones[z.val].rampStart 0 d.limits.releaseTime (now - d.entered)
  | _ =>
    match d.workStep with
    | none => d.zones[z.val].ramp
    | some t => rampValue d.zones[z.val].rampStart (t.targets[z.val] : Int) t.rampTime (now - d.pressStart)

/-- The value after stages 1 to 3; trims are not applied in RELEASING (R33, R36). -/
def Head.stage123 (d : Head) (now : Nat) (z : ZoneIx) : Int :=
  stage3 z (d.stage1 now z + if d.state = .releasing then 0 else d.zones[z.val].trim)

/-- The RING and Z4 commands of a computation and whether the margin adjusted them. -/
def Head.stage4 (d : Head) (now : Nat) : Int × Int × Bool :=
  ringMargin d.limits.ringMargin (d.stage123 now 0) (d.stage123 now 4)

/-- The command of zone `z` after the four pressure stages. -/
def Head.newCommand (d : Head) (now : Nat) (z : ZoneIx) : Nat :=
  (if z = 0 then (d.stage4 now).1 else if z = 4 then (d.stage4 now).2.1 else d.stage123 now z).toNat

/-- Starts a settle period of the supervision at `now`; with a settle time of 0 the testing goes on or begins at once (R43). -/
def Head.startSettle (d : Head) (now : Nat) : Head :=
  if d.limits.settleTime = 0 then { d with supervision := .testing }
  else { d.mapZones (fun _ z => { z with deviating := none }) with supervision := .settling now }

/-- Whether a computation uses trims other than the computation before it used (R43). -/
def Head.trimsChanged (d : Head) : Bool := d.zones.toList.any fun z => z.trim != z.lastTrim

/-- One computation of the five zones through stages 1 to 5 (R33). An adjustment of the margin sets margin-active, and the
margin-limited flag of the step that is current or held; a computation without one clears margin-active (R39). Changed trims
start a settle period outside a ramp (R43). -/
def Head.compute (d : Head) (now : Nat) : Head :=
  let adjusted := (d.stage4 now).2.2
  let worked := d.state == .pressing || d.state == .overpolish || d.state == .starved
  let settles := worked && d.trimsChanged && d.supervision != .ramping
  let d' := { d.mapZones (fun z c =>
      { c with
        ramp := d.stage1 now z
        command := d.newCommand now z
        code := c.cal.codeOf (d.newCommand now z)
        lastTrim := if worked then c.trim else c.lastTrim }) with
    marginActive := adjusted
    marginLimited := d.marginLimited || (adjusted && d.workStep.isSome) }
  if settles then d'.startSettle now else d'

/-- Sets every command of a head to 0, and clears margin-active (R33, R39). -/
def Head.zeroCommands (d : Head) : Head :=
  { d.mapZones (fun _ z => { z with command := 0, code := 0 }) with marginActive := false }

/-- Stops the supervision and clears its five timers (R42). -/
def Head.stopSupervision (d : Head) : Head :=
  { d.mapZones (fun _ z => { z with deviating := none }) with supervision := .off }

/-! ### Zone modes and windows -/

/-- The standby pattern: VENT vents all zones, CHUCK vents RING and holds Z1 to Z4 by vacuum (R32). -/
def Standby.mode (b : Standby) (z : ZoneIx) : ZoneMode :=
  match b with
  | .vent => .vent
  | .chuck => if z = 0 then .vent else .vacuum

/-- Sets a zone's mode. A zone that enters VENT from another mode begins an auto-zero window on the processed value `v`; a zone that
leaves VENT abandons its window; a zone already in VENT keeps its window (R44). -/
def Zone.setMode (z : Zone) (m : ZoneMode) (now : Nat) (v : Int) : Zone :=
  { z with
    mode := m
    window := if m = .vent then (if z.mode = .vent then z.window else some ⟨now, v⟩) else none }

/-- Sets the five zone modes of head `h` together (R32). -/
def State.setModes (s : State) (h : HeadIx) (m : ZoneIx → ZoneMode) : State :=
  s.modHead h fun d => d.mapZones fun z c => c.setMode (m z) s.now (s.processed h z)

/-- Puts the zones of head `h` in the standby pattern of its standby mode (R32). -/
def State.toStandby (s : State) (h : HeadIx) : State := s.setModes h (s.heads[h.val].standby).mode

/-- The evaluation at the end of an auto-zero window, with the reading `r` at the end, and the next window begun (R44, R45). -/
def Zone.endWindow (z : Zone) (m : HeadLimits) (w : Window) (stop : Nat) (r : Int) (next : Zone → Int) : Zone :=
  let fits := r.natAbs ≤ m.captureBand && (r - w.value).natAbs ≤ m.motionBand && (z.offset + r).natAbs ≤ m.apertureBand
  let z' := if fits then { z with offset := z.offset + r } else { z with drift := true }
  { z' with window := some ⟨stop, next z'⟩ }

end Sys2Proof.Machine
end

