-- ==== Sys2Proof/Machine/CondOps.lean ====
section
/-! DEFINITION. The holder set of a conditioner and the arm that follows it (R128, R129), the wear-map lookup (R139, R140), and the
carousel's test of readiness with the lift it starts (R155, R157, R149). -/

namespace Sys2Proof.Machine

/-! ### Holders and the arm -/

/-- Whether the holder set is empty (R128). -/
def Conditioner.unheld (c : Conditioner) : Bool := c.host.isNone && c.head.isNone

/-- Enters LOWERING: the sweep count and the learned-dwell count are 0, the recorded end reason is cleared (R129). -/
def Conditioner.lower (c : Conditioner) (now : Nat) : Conditioner :=
  { c with arm := .lowering, entered := now, sweeps := 0, learned := 0, endReason := none, segment := 0, inward := false }

/-- Enters RAISING with an end reason; the segment stays that of the dwell cut short (R127, R129). -/
def Conditioner.raise (c : Conditioner) (now : Nat) (why : EndReason) : Conditioner :=
  { c with arm := .raising, entered := now, endReason := some why }

/-- Whether the arm is down (R127). -/
def Conditioner.down (c : Conditioner) : Bool := c.arm == .lowering || c.arm == .sweeping

/-- After a member has joined a set that was empty before, a STOWED conditioner lowers; otherwise the arm is not changed (R129). -/
def Conditioner.joined (c : Conditioner) (wasUnheld : Bool) (now : Nat) : Conditioner :=
  if wasUnheld && c.arm == .stowed then c.lower now else c

/-- After a member has left: when it was the last, a conditioner that is down raises with the reason of the loss (R129). -/
def Conditioner.left (c : Conditioner) (now : Nat) (why : EndReason) : Conditioner :=
  if c.unheld && c.down then c.raise now why else c

/-- The host holder joins with a count, or its count is replaced (R131). -/
def Conditioner.joinHost (c : Conditioner) (n : HostHold) (now : Nat) : Conditioner :=
  { c with host := some n }.joined c.unheld now

/-- A head joins; one that already holds is not added twice (R133). -/
def Conditioner.joinHead (c : Conditioner) (h : HeadIx) (now : Nat) : Conditioner :=
  { c with head := some h }.joined c.unheld now

/-- The host holder leaves (R132, R135). -/
def Conditioner.dropHost (c : Conditioner) (now : Nat) (why : EndReason) : Conditioner :=
  { c with host := none }.left now why

/-- Head `h` leaves, if it holds (R133). -/
def Conditioner.dropHead (c : Conditioner) (h : HeadIx) (now : Nat) : Conditioner :=
  if c.head = some h then { c with head := none }.left now .headEnd else c

/-- The set is emptied by a demotion, a lift or STOP: an arm that is down raises with that reason, and in RAISING that reason
replaces the recorded one; a STOWED conditioner records nothing (R51, R129, R149, R150). -/
def Conditioner.emptied (c : Conditioner) (now : Nat) (why : EndReason) : Conditioner :=
  let c' := { c with host := none, head := none }
  match c.arm with
  | .stowed => c'
  | .raising => { c' with endReason := some why }
  | _ => c'.raise now why

/-- Head `h` drops its holder on whatever conditioner it holds. -/
def State.dropHolder (s : State) (h : HeadIx) : State :=
  forEach allPlatens (fun p s => s.modCond p fun c => c.dropHead h s.now) s

/-! ### The arm outputs (R127) -/

/-- Whether the lift output is up: in STOWED and RAISING (R127). -/
def Conditioner.liftUp (c : Conditioner) : Bool := !c.down

/-- The segment output: S0 in STOWED and LOWERING, the present or last dwell's segment otherwise (R127). -/
def Conditioner.segmentOutput (c : Conditioner) : SegIx :=
  match c.arm with
  | .stowed | .lowering => 0
  | .sweeping | .raising => c.segment

/-- The downforce output: the profile's code in SWEEPING, else 0 (R127). -/
def Conditioner.downforceOutput (c : Conditioner) : Nat := if c.arm = .sweeping then c.profile.downforce else 0

/-! ### The lookup -/

/-- Whether a learned entry is fresh: updated, and less than 600 s ago (R138). -/
def LearnedEntry.fresh (e : LearnedEntry) (now : Nat) : Bool :=
  match e.updated with
  | none => false
  | some t => now < t + Config.freshTime

/-- Whether a learned entry is usable: valid and fresh (R138). -/
def LearnedEntry.usable (e : LearnedEntry) (now : Nat) : Bool := e.valid && e.fresh now

/-- The learned factor of a torque L under a reference torque (R140). -/
def learnedFactor (refTorque torque : Nat) : Nat :=
  if torque = 0 then 512 else max 128 (min 512 ((256 * refTorque + torque / 2) / torque))

/-- The factor for a segment and its source, by the precedence of R139. -/
def factorFor (e : StaticEntry) (l : LearnedEntry) (refTorque now : Nat) : Nat × FactorSource :=
  if e.valid && e.override then (e.factor, .static)
  else if l.usable now then (learnedFactor refTorque l.torque, .learned)
  else if e.valid then (e.factor, .static)
  else (256, .default)

/-- The Wear Map's answer to a conditioner's lookup of segment `g` (R139). -/
def State.lookup (s : State) (p : PlatenIx) (g : SegIx) : Nat × FactorSource :=
  factorFor s.wears[p.val].statics[g.val] s.wears[p.val].learned[g.val] s.conds[p.val].profile.refTorque s.now

/-- The dwell time from base dwell and factor (R136). -/
def dwellTime (base factor : Nat) : Nat := max 20 ((base * factor + 128) / 256)

/-- Begins a dwell on segment `g` at the present moment, the arm SWEEPING (R135, R136). -/
def State.beginDwell (s : State) (p : PlatenIx) (g : SegIx) (inward : Bool) : State :=
  let f := s.lookup p g
  s.modCond p fun c =>
    { c with
      arm := .sweeping
      segment := g
      inward := inward
      factor := f.1
      factorSource := f.2
      dwell := dwellTime c.profile.baseDwell f.1
      entered := s.now
      torqueSum := 0
      torqueCount := 0 }

/-! ### Readiness and the lift -/

/-- A head is index-ready in IDLE, in HALTED, and in ARMED with its current step's index-outstanding mark set (R155). -/
def Head.indexReady (d : Head) : Bool := d.state == .idle || d.state == .halted || (d.state == .armed && d.indexMark)

/-- Whether every head is index-ready. -/
def State.allReady (s : State) : Bool := s.heads.toList.all Head.indexReady

/-- Whether every conditioner is STOWED. -/
def State.allStowed (s : State) : Bool := s.conds.toList.all fun c => c.arm == .stowed

/-- Enters LIFTING: the lift timer starts, and every conditioner is told and empties its holder set (R157, R149). -/
def State.enterLifting (s : State) : State :=
  forEach allPlatens (fun p s => s.modCond p fun c => c.emptied s.now .index)
    (s.modCar fun c => { c with state := .lifting, liftStart := s.now, lifted := false })

/-- The interlock's test of readiness, at entry to PENDING and at each head's report (R155). -/
def State.testReady (s : State) : State := if s.car.state == .pending && s.allReady then s.enterLifting else s

/-- Enters MOVING: INDEX-PERMIT is asserted, the index timer starts, and IN-POSITION gives the first phase (R158). -/
def State.enterMoving (s : State) : State :=
  s.modCar fun c =>
    { c with state := .moving, moveStart := s.now, phase := if s.inPosition then .departing else .arriving }

/-- The interlock's test at the expiry of the lift timer and at each report of a stow (R157). -/
def State.testLifted (s : State) : State :=
  if s.car.state == .lifting && s.car.lifted && s.allStowed then s.enterMoving else s

/-- The station at which head `h` stands: (h + p) mod 4 (R152). -/
def State.station (s : State) (h : HeadIx) : Nat := (h.val + s.car.position.val) % 4

/-- INDEX-PERMIT is asserted in MOVING alone (R153). -/
def State.indexPermit (s : State) : Bool := s.car.state == .moving

end Sys2Proof.Machine
end

