-- ==== Sys2Proof/Machine/LineOps.lean ====
section
/-! DEFINITION. A line's queues, admission and flow (R87 to R97), the closing of a dose, and a platen's admission round (R56). -/

namespace Sys2Proof.Machine

/-! ### What a record and a line say -/

/-- A dose is permitted on a platen in a mode (R49). -/
def permitted (m : Mode) (service : Bool) : Bool := m.slurry || (service && m.service)

/-- A queued record is eligible when it is permitted on its platen in that platen's present mode (R90). -/
def State.eligible (s : State) (r : RecIx) : Bool :=
  match s.recs[r.val].platen with
  | none => false
  | some p => permitted s.platens[p.val].mode s.recs[r.val].service

/-- Whether a state is one of a record of an admitted set that is not closing. -/
def DoseState.live : DoseState → Bool
  | .opening | .flowing => true
  | _ => false

/-- Whether a state is one of a record in an admitted set (R63). -/
def DoseState.admitted : DoseState → Bool
  | .opening | .flowing | .closing => true
  | _ => false

/-- Whether a state is one of a record with its line (R63). -/
def DoseState.present : DoseState → Bool
  | .queued | .opening | .flowing | .closing => true
  | _ => false

/-- The present segment of a record in FLOWING. -/
def DoseRec.currentSegment (d : DoseRec) : Option Segment := if d.segment = 0 then none else d.segments[d.segment - 1]?

/-- The rate of a record's current segment (R76), 0 outside FLOWING. -/
def DoseRec.rate (d : DoseRec) : Nat :=
  if d.state = .flowing then (d.currentSegment.map Segment.rate).getD 0 else 0

/-- The delivered volume in 0.1 mL (R78). -/
def DoseRec.delivered (d : DoseRec) : Nat := holdAt max32 (d.acc / 6000)

/-- The sum of the current rates of a line's FLOWING doses (R96). -/
def State.flowRate (s : State) (l : LineIx) : Nat := (s.lines[l.val].admitted.map fun r => s.recs[r.val].rate).sum

/-- The pump rate of a line: its capacity in PRIMING, else the sum of the current rates of its FLOWING doses (R96). -/
def State.pumpRate (s : State) (l : LineIx) : Nat :=
  if s.lines[l.val].state = .priming then s.lines[l.val].config.capacity else s.flowRate l

/-- The valve of line `l` toward platen `p` is open while a dose of the line directed to it is OPENING or FLOWING (05, 5.5). -/
def State.valveOpen (s : State) (l : LineIx) (p : PlatenIx) : Bool :=
  s.lines[l.val].admitted.any fun r => s.recs[r.val].state.live && s.recs[r.val].platen == some p

/-- The return valve of a line is open while it is PRIMING (05, 5.5). -/
def State.returnValveOpen (s : State) (l : LineIx) : Bool := s.lines[l.val].state == .priming

/-- Whether the flow check of a line runs: READY with a dose FLOWING, or PRIMING (R102). -/
def State.checkRuns (s : State) (l : LineIx) : Bool :=
  match s.lines[l.val].state with
  | .priming => true
  | .ready => s.lines[l.val].admitted.any fun r => s.recs[r.val].state == .flowing
  | _ => false

/-- Clears the flow-fault timer of a line whose flow check does not run (R103). -/
def State.settleCheck (s : State) (l : LineIx) : State :=
  if s.checkRuns l then s else s.modLine l fun c => { c with faultSince := none }

/-- The records of a line's class queues, class 3 first, each queue oldest first (R100). -/
def Line.queued (c : Line) : List RecIx := c.queues[3] ++ c.queues[2] ++ c.queues[1] ++ c.queues[0]

/-- Whether a line holds a queued dose directed to platen `p`. -/
def State.holdsFor (s : State) (l : LineIx) (p : PlatenIx) : Bool :=
  s.lines[l.val].queued.any fun r => s.recs[r.val].platen == some p

/-- The class of a dose fixed at its submission: the lower of the map entry of its purpose and the ceiling (R58). -/
def PlatenConfig.classFor (c : PlatenConfig) (purpose : Nat) : ClassIx :=
  min (c.classes.toList.getD purpose 0) c.ceiling

/-! ### Admission -/

/-- The classes, highest first. -/
def classesDown : List ClassIx := [3, 2, 1, 0]

/-- The candidate of a class: the oldest eligible record of its queue (R90). -/
def State.candidate (s : State) (l : LineIx) (c : ClassIx) : Option RecIx := s.lines[l.val].queues[c.val].find? s.eligible

/-- The highest class that has a candidate and passes `ok`, with that candidate. -/
def State.highest (s : State) (l : LineIx) (ok : ClassIx → Bool) : Option (ClassIx × RecIx) :=
  classesDown.findSome? fun c => if ok c then (s.candidate l c).map fun r => (c, r) else none

/-- Reloads the four credits of a line to its weights (R92). -/
def State.reloadCredits (s : State) (l : LineIx) : State := s.modLine l fun c => { c with credits := c.config.weights }

/-- The class choice of one step of an attempt: the state after any reload of the credits, and the chosen candidate (R91, R92). -/
def State.choose (s : State) (l : LineIx) : State × Option (ClassIx × RecIx) :=
  match s.lines[l.val].config.scheme with
  | .strict => (s, s.highest l fun _ => true)
  | .weighted =>
    match s.highest l fun c => 0 < s.lines[l.val].credits[c.val] with
    | some x => (s, some x)
    | none =>
      if (s.highest l fun _ => true).isSome then
        let s' := s.reloadCredits l
        (s', s'.highest l fun c => 0 < s'.lines[l.val].credits[c.val])
      else (s, none)

/-- Whether a record fits its line's capacity and its platen's flow limit (R93). -/
def State.fits (s : State) (l : LineIx) (p : PlatenIx) (r : RecIx) : Bool :=
  s.lines[l.val].reservation + s.recs[r.val].peak ≤ s.lines[l.val].config.capacity
    && s.platens[p.val].reservation + s.recs[r.val].peak ≤ s.platens[p.val].config.flowLimit

/-- Admits record `r` of class `c` for platen `p` (R93): it leaves its queue for the admitted set in OPENING; its peak is added to
both reservations; a WEIGHTED line spends a credit; the platen's pointer moves past the line; a priming ends. -/
def State.admitDose (s : State) (l : LineIx) (c : ClassIx) (r : RecIx) (p : PlatenIx) : State :=
  let k := s.recs[r.val].peak
  let s1 := s.modLine l fun n =>
    { n with
      queues := n.queues.set c.val (n.queues[c.val].erase r)
      admitted := n.admitted ++ [r]
      reservation := n.reservation + k
      credits := if n.config.scheme = .weighted then n.credits.set c.val (n.credits[c.val] - 1) else n.credits
      state := if n.state = .priming then .ready else n.state
      primeDue := if n.state = .priming then none else n.primeDue }
  let s2 := s1.modPlaten p fun n => { n with reservation := n.reservation + k, nextLine := l + 1 }
  (s2.modRec r fun d => { d with state := .opening, since := s.now }).settleCheck l

/-- Whether a line admits at all: READY or PRIMING, with STOP released (R82, R89). -/
def State.admits (s : State) (l : LineIx) : Bool :=
  (s.lines[l.val].state == .ready || s.lines[l.val].state == .priming) && !s.stop

/-- The steps of an attempt, one candidate each, until none remains or one does not fit (R89 to R94). -/
def State.admitMany (l : LineIx) : Nat → State → State
  | 0, s => s
  | fuel + 1, s =>
    match s.choose l with
    | (s', none) => s'
    | (s', some (c, r)) =>
      match s'.recs[r.val].platen with
      | none => s'
      | some p =>
        if s'.fits l p r then State.admitMany l fuel (s'.admitDose l c r p)
        else s'.modLine l fun n => { n with stoppedAt := some r }

/-- An admission attempt of a line (R89): the stopped-at record is cleared first (R94). Each step admits a queued record or ends the
attempt, so one step more than there are queued records is enough. -/
def State.attempt (s : State) (l : LineIx) : State :=
  let s' := s.modLine l fun n => { n with stoppedAt := none }
  if s'.admits l then State.admitMany l (s'.lines[l.val].queued.length + 1) s' else s'

/-- An admission round of platen `p` over the lines `asked` picks, from the pointer on, each asked at most once (R56). -/
def State.round (s : State) (p : PlatenIx) (asked : State → LineIx → Bool) : State :=
  let first := s.platens[p.val].nextLine
  forEach [first, first + 1, first + 2, first + 3] (fun l s => if asked s l then s.attempt l else s) s

/-! ### Queueing, closing and leaving -/

/-- The next value of the submission counter (R69). -/
def nextSequence (n : Nat) : Nat := if max32 ≤ n then 1 else n + 1

/-- Places a filled record at the tail of its class queue on its line and gives it the next sequence number (R68, R69). -/
def State.enqueue (s : State) (r : RecIx) (d : DoseRec) : State :=
  let n := nextSequence s.counter
  ({ s with counter := n }.modRec r fun _ => { d with state := .queued, sequence := n, since := s.now }).modLine d.line fun c =>
    { c with queues := c.queues.set d.cls.val (c.queues[d.cls.val] ++ [r]) }

/-- Takes a record out of its class queue with the reason of its removal (R87). -/
def State.unqueue (s : State) (r : RecIx) (why : DoseReason) : State :=
  let d := s.recs[r.val]
  (s.modLine d.line fun c => { c with queues := c.queues.set d.cls.val (c.queues[d.cls.val].erase r) }).modRec r fun d =>
    { d with reason := some why }

/-- An ending sends an OPENING or FLOWING record to CLOSING with its reason; a record in another state is not changed (R63, R97). -/
def State.close (s : State) (r : RecIx) (why : DoseReason) : State :=
  if s.recs[r.val].state.live then
    (s.modRec r fun d => { d with state := .closing, reason := some why, since := s.now }).settleCheck s.recs[r.val].line
  else s

/-- Ends the teardown of a line whose admitted set is empty: OFFLINE, and the LINE-OFFLINE notice (R101). -/
def State.finishTeardown (s : State) (l : LineIx) : State :=
  let c := s.lines[l.val]
  if c.state = .teardown ∧ c.admitted = [] then
    (s.modLine l fun c => { c with state := .offline }).post (.lineOffline l c.tornCount c.tornVolume c.before)
  else s

/-- Ends a priming for a cause other than an admission or a fault: the line is READY (R99). -/
def State.endPriming (s : State) (l : LineIx) : State :=
  (s.modLine l fun c => { c with state := .ready, primeDue := none }).settleCheck l

/-- A head releases its dose: a QUEUED record is removed and is IDLE at once, and its line makes an attempt; an OPENING or FLOWING
record closes with reason RELEASED; a CLOSING record is left (R71). -/
def State.releaseDose (s : State) (h : HeadIx) : State :=
  match s.heads[h.val].dose with
  | none => s
  | some r =>
    let s' := s.modHead h fun d => { d with dose := none }
    match s.recs[r.val].state with
    | .queued =>
      ((s'.unqueue r .released).modRec r fun d => { d with state := .idle, since := s.now }).attempt s.recs[r.val].line
    | _ => s'.close r .released

end Sys2Proof.Machine
end

