-- ==== Sys2Proof/Machine/HeadOps.lean ====
section
/-! DEFINITION. The head's transitions (R3 to R25) and the completion of a dose with what it tells the heads (R72, R79). -/

namespace Sys2Proof.Machine

/-! ### Watches of a head -/

/-- Entry to DISARMED from any state: the working state is cleared, the definition and the firings count are kept (R109). -/
def Watch.disarm (k : Watch) : Watch :=
  { k with state := .disarmed, history := [], prevAvg := none, crossed := false, holdStart := none }

/-- Arming: the working state is cleared and the blank time starts; with a blank time of 0 the watch is WATCHING at once (R111). -/
def Watch.arm (k : Watch) (now : Nat) : Watch :=
  { k.disarm with state := if k.defn.blank = 0 then .watching else .blanking, blankStart := now }

/-- Unbinds and disarms the watch bound to head `h` (R16, R122). -/
def State.unbind (s : State) (h : HeadIx) : State :=
  forEach allWatches (fun w s => s.modWatch w fun k => if k.bound = some h then { k.disarm with bound := none } else k) s

/-- The watch bound to head `h`. -/
def State.boundWatch (s : State) (h : HeadIx) : Option WatchIx := allWatches.find? fun w => s.watches[w.val].bound == some h

/-! ### The step -/

/-- The current step (R3). -/
def Head.step (d : Head) : Option Step := if d.current then d.steps.head? else none

/-- The oldest loaded step becomes current, with a clear margin-limited flag, and its index-outstanding mark set if it has
AWAIT-INDEX (R3). -/
def Head.makeCurrent (d : Head) : Head :=
  { d with
    current := true
    marginLimited := false
    endpoint := none
    indexMark := (d.steps.head?.map Step.awaitIndex).getD false }

/-- Ends the current step: STEP-END, the bound watch unbound, the slot freed (R16). -/
def State.endStep (s : State) (h : HeadIx) (why : StepReason) : State :=
  let d := s.heads[h.val]
  match d.step with
  | none => s
  | some t =>
    ((s.post (.stepEnd h t.label why (d.clock s.now) d.marginLimited d.endpoint)).unbind h).modHead h fun d =>
      { d with steps := d.steps.tail, current := false, indexMark := false, marginLimited := false, endpoint := none }

/-- Ends the held step of STARVED with its second STEP-END: its elapsed is the time in STARVED, it carries no endpoint time (R16).
DEDUCED (log entry 28): R16 says this of the reasons STARVED and FLUSHED, and the model does the same for HALTED. -/
def State.endHeld (s : State) (h : HeadIx) (why : StepReason) : State :=
  let d := s.heads[h.val]
  match d.held with
  | none => s
  | some t =>
    (s.post (.stepEnd h t.label why (s.now - d.entered) d.marginLimited none)).modHead h fun d =>
      { d with held := none, marginLimited := false }

/-! ### Entries that need nothing else -/

/-- Entry to HALTED (R23); a head already HALTED takes no further halt. The interlock is told last (R155). -/
def State.haltHead (s : State) (h : HeadIx) (why : HaltReason) (zone : Option ZoneIx) (watch : Option WatchIx) : State :=
  if s.heads[h.val].state = .halted then s
  else
    let s1 := (s.toStandby h).modHead h fun d => { d.zeroCommands.stopSupervision with updateDue := none }
    let s2 := if s.heads[h.val].state = .starved then s1.endHeld h .halted else s1.endStep h .halted
    let s3 := s2.modHead h fun d => { d with state := .halted, haltReason := some why, snapshot := [] }
    (((s3.releaseDose h).unbind h).dropHolder h).post (.headHalted h why zone watch) |>.testReady

/-- Entry to IDLE; the interlock is told (R155). -/
def State.enterIdle (s : State) (h : HeadIx) : State :=
  (s.modHead h fun d => { d with state := .idle, snapshot := [] }).testReady

/-- Entry to RELEASING: the dose and the conditioner holder are released, the ramp to 0 begins at the present commands, and a
computation is made (R21, R33, R35). -/
def State.enterReleasing (s : State) (h : HeadIx) : State :=
  let s1 := s.modHead h fun d =>
    { (d.stopSupervision.mapZones fun _ z => { z with rampStart := z.command }) with
      state := .releasing, entered := s.now, updateDue := some (s.now + Config.updatePeriod), snapshot := [] }
  ((s1.releaseDose h).dropHolder h).modHead h fun d => d.compute s.now

/-- The end of the starve limit: the second STEP-END with reason STARVED, then RELEASING (R20). -/
def State.starveEnd (s : State) (h : HeadIx) : State := (s.endHeld h .starved).enterReleasing h

/-- Entry to STARVED with the ended step held (R19, R20): the step clock is frozen, a ramp in progress counts as ended (R43), and the
margin-limited flag is cleared for the starved period (R39). A starve limit of 0 expires at the entry. -/
def State.enterStarved (s : State) (h : HeadIx) (ended : Step) : State :=
  let s' := s.modHead h fun d =>
    let d' := if d.supervision = .ramping then d.startSettle s.now else d
    { d' with state := .starved, held := some ended, frozenClock := s.now - d.pressStart, entered := s.now, marginLimited := false }
  if s.heads[h.val].limits.starveLimit = 0 then s'.starveEnd h else s'

/-! ### PRESSING -/

/-- The end of the entry to PRESSING once the binding has not failed: the holder, and the computation of R33 (R11). -/
def State.pressOn (s : State) (h : HeadIx) (t : Step) : State :=
  let s' := if t.condInsitu then s.modCond t.platen fun c => c.joinHead h s.now else s
  s'.modHead h fun d => d.compute s.now

/-- Binds watch `w` to head `h` and arms it (R121). -/
def State.bind (s : State) (w : WatchIx) (h : HeadIx) : State := s.modWatch w fun k => { k.arm s.now with bound := some h }

/-- Entry to PRESSING of the current step (R11): the step clock at 0, the ramp start values and the zone modes, the binding of the
endpoint watch, the holder. A refused binding halts the head there (R121). -/
def State.enterPressing (s : State) (h : HeadIx) : State :=
  match s.heads[h.val].step with
  | none => s
  | some t =>
    let s1 := (s.modHead h fun d =>
      { (d.mapZones fun _ z => { z with rampStart := if z.mode = .pressure then (z.command : Int) else 0, deviating := none }) with
        state := .pressing, pressStart := s.now, endpoint := none, supervision := .ramping,
        updateDue := some (s.now + Config.updatePeriod) }).setModes h fun _ => .pressure
    let s2 := if t.rampTime = 0 then s1.modHead h fun d => d.startSettle s.now else s1
    match t.watch with
    | none => s2.pressOn h t
    | some w =>
      if s2.watches[w.val].state = .undefined then s2.haltHead h .watchMissing none (some w)
      else if s2.watches[w.val].bound.isSome && s2.watches[w.val].bound != some h then s2.haltHead h .watchBusy none (some w)
      else (s2.bind w h).pressOn h t

/-- Entry to WETTING; a lead time of 0, or a step without a line, goes to PRESSING at once (R10). -/
def State.enterWetting (s : State) (h : HeadIx) : State :=
  match s.heads[h.val].step with
  | none => s
  | some t =>
    let s' := s.modHead h fun d => { d with state := .wetting, entered := s.now, snapshot := [] }
    if t.line.isNone || t.lead = 0 then s'.enterPressing h else s'

/-! ### Succession -/

/-- The next step is continuous with the ended one (R17). -/
def continuous (ended next : Step) : Bool :=
  !next.awaitIndex && !next.waitDoses && next.platen == ended.platen
    && next.line == ended.line && (ended.line.isNone || next.rate == ended.rate)

/-- The choice after a step that ended with TIME, TIME-LIMIT, ENDPOINT or ADVANCED, and for a step loaded in STARVED (R17 to R19). -/
def State.succeed (s : State) (h : HeadIx) (ended : Step) : State :=
  match s.heads[h.val].steps.head? with
  | some next =>
    let s' := s.modHead h Head.makeCurrent
    if continuous ended next then (if next.condInsitu then s' else s'.dropHolder h).enterPressing h
    else s'.enterReleasing h
  | none => if ended.chain then s.enterStarved h ended else s.enterReleasing h

/-- Ends the current step and makes the choice of R17. -/
def State.endAndSucceed (s : State) (h : HeadIx) (why : StepReason) : State :=
  match s.heads[h.val].step with
  | none => s
  | some t => (s.endStep h why).succeed h t

/-! ### SLURRY-WAIT and ARMED -/

/-- The first of the head's two records that is IDLE, 2h before 2h + 1 (R8). -/
def State.idleRecord (s : State) (h : HeadIx) : Option RecIx :=
  [⟨2 * h.val, by omega⟩, ⟨2 * h.val + 1, by omega⟩].find? fun r : RecIx => s.recs[r.val].state == .idle

/-- The record a head submits: one open-ended segment at the step's rate, no cap, return policy SILENT (R8, R64). -/
def headDose (t : Step) (l : LineIx) (cls : ClassIx) (now : Nat) : DoseRec where
  state := .queued
  sequence := 0
  label := t.label
  platen := some t.platen
  line := l
  purpose := t.purpose
  cls := cls
  service := false
  policy := .silent
  segments := [⟨t.rate, none⟩]
  cap := none
  peak := t.rate
  segment := 0
  segTime := 0
  flowTime := 0
  acc := 0
  reason := none
  since := now
  tickDue := 0

/-- Checks 3, 4 and 5 of DOSE-SUBMIT, as a result: a line that takes doses, a member platen, a peak that fits both budgets (R68). -/
def State.lineChecks (s : State) (l : LineIx) (p : PlatenIx) (peak : Nat) : Option Result :=
  let c := s.lines[l.val]
  if c.state = .offline ∨ c.state = .teardown then some .lineOffline
  else if !c.config.membership[p.val] then some .notMember
  else if c.config.capacity < peak || s.platens[p.val].config.flowLimit < peak then some .badValue
  else none

/-- A head in SLURRY-WAIT submits its dose on an IDLE record; with none it waits; a failed check halts it with LINE-OFFLINE (R8). -/
def State.submitHead (s : State) (h : HeadIx) : State :=
  match s.heads[h.val].step, s.idleRecord h with
  | some t, some r =>
    match t.line with
    | none => s
    | some l =>
      if (s.lineChecks l t.platen t.rate).isSome then s.haltHead h .lineOffline none none
      else
        let cls := s.platens[t.platen.val].config.classFor t.purpose
        ((s.modHead h fun d => { d with dose := some r }).enqueue r (headDose t l cls s.now)).attempt l
  | _, _ => s

/-- A head in ARMED leaves it when no index is outstanding, its platen is in POLISHING and its barrier snapshot is empty (R7). -/
def State.testArmed (s : State) (h : HeadIx) : State :=
  let d := s.heads[h.val]
  match d.step with
  | none => s
  | some t =>
    if d.state = .armed ∧ d.indexMark = false ∧ s.platens[t.platen.val].mode.press = true ∧ d.snapshot = [] then
      if t.line.isSome then (s.modHead h fun d => { d with state := .slurryWait, dose := none }).submitHead h
      else s.enterWetting h
    else s

/-- The comparison of the head's station with its step's platen (R5): a mismatch halts it, a match leaves it in ARMED under R7. -/
def State.checkStation (s : State) (h : HeadIx) : State :=
  match s.heads[h.val].step with
  | none => s
  | some t => if s.station h = platenNo t.platen then s.testArmed h else s.haltHead h .wrongStation none none

/-- The tool-controller doses directed to platen `p` that are QUEUED, OPENING, FLOWING or CLOSING (R6). -/
def State.barrier (s : State) (p : PlatenIx) : List RecIx :=
  (List.finRange 64).filter fun r => 8 ≤ r.val && s.recs[r.val].state.present && s.recs[r.val].platen == some p

/-- Entry to ARMED of the current step: the barrier snapshot, and the station when no index is outstanding (R5, R6). A head that
waits for an index is index-ready, and the interlock is told (R155). -/
def State.enterArmed (s : State) (h : HeadIx) : State :=
  match s.heads[h.val].step with
  | none => s
  | some t =>
    let s' := s.modHead h fun d => { d with state := .armed, snapshot := if t.waitDoses then s.barrier t.platen else [] }
    if s.heads[h.val].indexMark then s'.testReady else s'.checkStation h

/-- A head is told of an index that completed DONE: in ARMED with its mark set it clears the mark and checks its station (R159). -/
def State.tellIndexDone (s : State) (h : HeadIx) : State :=
  let d := s.heads[h.val]
  if d.state = .armed ∧ d.indexMark = true then (s.modHead h fun d => { d with indexMark := false }).checkStation h else s

/-- The expiry of the release time: the zones go to standby, the commands to 0, and the head to ARMED or IDLE (R21, R32, R33). -/
def State.releaseEnd (s : State) (h : HeadIx) : State :=
  let s' := (s.toStandby h).modHead h fun d => { d.zeroCommands with updateDue := none }
  if s.heads[h.val].current then s'.enterArmed h else s'.enterIdle h

/-! ### What the pool tells a head (R79) -/

/-- The head that owns a record (R64). -/
def ownerOf (r : RecIx) : Option HeadIx := if h : r.val < 8 then some ⟨r.val / 2, by omega⟩ else none

/-- Whether a head in this state acts on the loss of its dose (R22). -/
def HeadState.losesDose : HeadState → Bool
  | .slurryWait | .wetting | .pressing | .overpolish | .starved => true
  | _ => false

/-- The owning head is told of the loss of its dose (R9, R22, R79). -/
def State.tellLoss (s : State) (r : RecIx) : State :=
  match ownerOf r with
  | none => s
  | some h =>
    if s.heads[h.val].dose = some r ∧ s.heads[h.val].state.losesDose = true then s.haltHead h .slurryLost none none else s

/-- The owning head is told that its dose is FLOWING (R9). -/
def State.tellFlowing (s : State) (r : RecIx) : State :=
  match ownerOf r with
  | none => s
  | some h => if s.heads[h.val].dose = some r ∧ s.heads[h.val].state = .slurryWait then s.enterWetting h else s

/-- The owning head is told that a record has returned to IDLE: a head waiting for one submits on it (R8). -/
def State.tellIdle (s : State) (r : RecIx) : State :=
  match ownerOf r with
  | none => s
  | some h => if s.heads[h.val].dose = none ∧ s.heads[h.val].state = .slurryWait then s.submitHead h else s

/-- An ending of a dose other than its head's release: CLOSING with its reason, and a head record's loss is told (R63, R79). -/
def State.closeAndTell (s : State) (r : RecIx) (why : DoseReason) : State :=
  if s.recs[r.val].state.live then (s.close r why).tellLoss r else s

/-! ### Completion (R72) -/

/-- The DOSE-END notice of a record (R73). -/
def State.doseEndOf (s : State) (r : RecIx) : Notice :=
  let d := s.recs[r.val]
  .doseEnd r d.sequence d.label d.platen d.line d.cls d.reason d.delivered d.flowTime d.segment

/-- A completed record leaves the barrier snapshot of a head in ARMED, which tests R7 again when the snapshot becomes empty (R72). -/
def State.clearSnapshot (s : State) (r : RecIx) (h : HeadIx) : State :=
  let d := s.heads[h.val]
  if d.state = .armed ∧ r ∈ d.snapshot then
    (s.modHead h fun d => { d with snapshot := d.snapshot.erase r }).testArmed h
  else s

/-- A record goes back to the tail of the free list (R65). -/
def State.giveBack (s : State) (r : RecIx) : State :=
  { s.modRec r fun d => { d with state := .free, since := s.now } with free := s.free ++ [r] }

/-- The return policy decides what is reported and where the record goes (R73). -/
def State.returnRecord (s : State) (r : RecIx) : State :=
  match s.recs[r.val].policy with
  | .notify => (s.post (s.doseEndOf r)).giveBack r
  | .silent => s.giveBack r
  | .hold => s.modRec r fun d => { d with state := .held, since := s.now }

/-- The pool's part of a completion, once the record has left its line (R72). -/
def State.poolDone (s : State) (r : RecIx) : State :=
  if r.val < 8 then (s.modRec r fun d => { d with state := .idle, since := s.now }).tellIdle r
  else forEach allHeads (fun h s => s.clearSnapshot r h) (s.returnRecord r)

/-- The end of CLOSING (R97): the record leaves the admitted set; both reservations give back its peak; a teardown counts a torn-down
dose (R101); the pool completes the record; the line ends its teardown or makes an attempt; the platen makes its round. -/
def State.closingEnd (s : State) (r : RecIx) : State :=
  let d := s.recs[r.val]
  let l := d.line
  let s1 := s.modLine l fun c =>
    let torn := c.state = .teardown ∧ d.reason = some .tornDown
    { c with
      admitted := c.admitted.erase r
      reservation := c.reservation - d.peak
      tornCount := if torn then c.tornCount + 1 else c.tornCount
      tornVolume := if torn then holdAt max32 (c.tornVolume + d.delivered) else c.tornVolume }
  match d.platen with
  | none => s1.poolDone r
  | some p =>
    let s2 := (s1.modPlaten p fun n => { n with reservation := n.reservation - d.peak }).poolDone r
    let s3 := if s2.lines[l.val].state = .teardown ∧ s2.lines[l.val].admitted = [] then s2.finishTeardown l else s2.attempt l
    s3.round p fun s k => k != l && s.holdsFor k p

end Sys2Proof.Machine
end

