-- ==== Sys2Proof/Machine/Carousel.lean ====
section
/-! DEFINITION. The meanings of the requests to the Carousel Interlock, of its timers and of the IN-POSITION wire
(08_carousel_index_interlock.md). -/

namespace Sys2Proof.Machine

/-! ### INDEX-REQUEST, INDEX-CANCEL, INDEX-RESYNC -/

/-- The INDEX-END of an index at the present moment (R159). -/
def State.indexEnd (s : State) (outcome : IndexOutcome) (left : CarState) : Notice :=
  .indexEnd outcome s.car.start s.car.position left (holdAt max32 (s.now - s.car.acceptedAt))

/-- A field of INDEX-REQUEST replaces a setting, 0 keeps it (R154). -/
def newSetting (field old : Nat) : Nat := if field = 0 then old else field

/-- The work of an accepted INDEX-REQUEST (R154). -/
def State.requestIndex (s : State) (lift timeout : Nat) : State :=
  (s.modCar fun c =>
    { c with
      liftTime := newSetting lift c.liftTime
      indexTimeout := newSetting timeout c.indexTimeout
      start := c.position
      acceptedAt := s.now
      state := .pending }).testReady

/-- INDEX-REQUEST with its checks; the payload is the state after, the start position and the two settings (R154). -/
def handleIndexRequest : Handler := withBody parseIndex fun q s =>
  if (q.1 ≠ 0 ∧ (q.1 < 500 ∨ 5000 < q.1)) ∨ (q.2 ≠ 0 ∧ (q.2 < 1000 ∨ 20000 < q.2)) then (.refuse .badValue, s)
  else if s.stop then (.refuse .stopped, s)
  else if s.car.state ≠ .idle then (.refuse .wrongState, s)
  else
    let s' := s.requestIndex q.1 q.2
    (.ok (p1 s'.car.state.code ++ p1 s'.car.start.val ++ p2 s'.car.liftTime ++ p2 s'.car.indexTimeout), s')

/-- INDEX_REQUEST (R154). -/
def execIndexRequest (tag : Byte) (body : List Byte) (s : State) : Outcome :=
  .next (arrive 0x58 tag body handleIndexRequest s)

/-- An index abandoned before it moved: IDLE, and INDEX-END (R156, R165). -/
def State.abandonIndex (s : State) (outcome : IndexOutcome) : State :=
  (s.modCar fun c => { c with state := .idle, last := some .abandoned }).post (s.indexEnd outcome s.car.state)

/-- INDEX-CANCEL (R156). -/
def handleIndexCancel : Handler := withBody parseEmpty fun _ s =>
  if s.car.state = .pending then (.ok [], s.abandonIndex .abandonedHost) else (.refuse .wrongState, s)

/-- INDEX_CANCEL (R156). -/
def execIndexCancel (tag : Byte) (body : List Byte) (s : State) : Outcome := .next (arrive 0x59 tag body handleIndexCancel s)

/-- INDEX-RESYNC; the payload is the position before and after (R161). -/
def handleIndexResync : Handler := withBody parseEmpty fun _ s =>
  if s.car.state ≠ .fault then (.refuse .wrongState, s)
  else if !s.inPosition then (.refuse .notInPosition, s)
  else (.ok (p1 s.car.position.val ++ p1 s.pos.val), s.modCar fun c => { c with state := .idle, position := s.pos })

/-- INDEX_RESYNC (R161). -/
def execIndexResync (tag : Byte) (body : List Byte) (s : State) : Outcome := .next (arrive 0x5A tag body handleIndexResync s)

/-! ### CAROUSEL-READ (R163) -/

/-- Whether an index is in progress. -/
def CarState.inIndex : CarState → Bool
  | .pending | .lifting | .moving => true
  | _ => false

/-- The payload of CAROUSEL-READ (R163). -/
def State.carouselPayload (s : State) : List Byte :=
  let c := s.car
  p1 c.state.code ++ p1 c.position.val ++ many (fun h => p1 (s.station h)) allHeads
    ++ p1 (if c.state.inIndex then c.start.val else c.position.val) ++ p1 (bit s.indexPermit) ++ p1 (bit s.inPosition)
    ++ p1 s.pos.val ++ p1 (if c.state = .moving then c.phase.code else 255)
    ++ setByte (s.heads.toList.map fun d => c.state == .pending && !d.indexReady)
    ++ setByte (s.conds.toList.map fun k => c.state == .lifting && k.arm != .stowed)
    ++ p2 (if c.state = .lifting then c.liftStart + c.liftTime - s.now else 0)
    ++ p2 (if c.state = .moving then c.moveStart + c.indexTimeout - s.now else 0)
    ++ p2 c.liftTime ++ p2 c.indexTimeout ++ p1 (LastOutcome.code c.last) ++ p1 c.outcome.code

/-- CAROUSEL-READ (R163). -/
def handleCarouselRead : Handler := withBody parseEmpty fun _ s => (.ok s.carouselPayload, s)

/-- CAROUSEL_READ (R163). -/
def execCarouselRead (tag : Byte) (body : List Byte) (s : State) : Outcome :=
  .next (arrive 0x5B tag body handleCarouselRead s)

/-! ### Faults and arrivals -/

/-- The last outcome a fault leaves. -/
def FaultReason.outcome : FaultReason → LastOutcome
  | .misposition _ => .misposition
  | .timeout => .timeout
  | .stop => .stop

/-- An index in MOVING ends in FAULT: the position is kept, and INDEX-FAULT is posted (R160, R165). -/
def State.indexFault (s : State) (why : FaultReason) : State :=
  (s.modCar fun c => { c with state := .fault, last := some why.outcome }).post
    (.indexFault why s.car.position s.car.phase (s.now - s.car.moveStart))

/-- The arrival: with POS one past the start position the index is DONE and the heads are told in order; otherwise MISPOSITION
(R159, R160). -/
def State.arriveAt (s : State) (pos : Station) : State :=
  if pos = s.car.start + 1 then
    let s1 := s.modCar fun c => { c with position := pos, state := .idle, last := some .done }
    forEach allHeads (fun h s => s.tellIndexDone h) (s1.post (s1.indexEnd .done .moving))
  else s.indexFault (.misposition pos)

/-- What a change of IN-POSITION to `level`, POS reading `pos`, does in MOVING (R158). -/
def State.inPositionMoves (s : State) (level : Bool) (pos : Station) : State :=
  if s.car.state = .moving then
    match s.car.phase, level with
    | .departing, false => s.modCar fun c => { c with phase := .arriving }
    | .arriving, true => s.arriveAt pos
    | _, _ => s
  else s

/-- The levels of IN-POSITION and POS after a change of the wires; the interlock acts on a change of IN-POSITION (R153, R158). -/
def State.wirePosition (s : State) (level : Bool) (pos : Station) : State :=
  let s' := { s with inPosition := level, pos := pos }
  if s'.running && level != s.inPosition then s'.inPositionMoves level pos else s'

/-- IN_POSITION_CHANGE (R158). -/
def execInPositionChange (level : Bool) (pos : Station) (s : State) : Outcome := .next (s.wirePosition level pos)

/-! ### Timers -/

/-- The lift timer expires (R157). -/
def State.liftExpires (s : State) : State :=
  if s.car.state = .lifting ∧ s.car.lifted = false then
    ((s.reach (s.car.liftStart + s.car.liftTime)).modCar fun c => { c with lifted := true }).testLifted
  else s

/-- LIFT_TIMER_EXPIRY (R157). -/
def execLiftTimerExpiry (s : State) : Outcome := .next (s.whenRunning State.liftExpires)

/-- The index timer expires in MOVING (R160). -/
def State.indexExpires (s : State) : State :=
  if s.car.state = .moving then (s.reach (s.car.moveStart + s.car.indexTimeout)).indexFault .timeout else s

/-- INDEX_TIMER_EXPIRY (R160). -/
def execIndexTimerExpiry (s : State) : Outcome := .next (s.whenRunning State.indexExpires)

end Sys2Proof.Machine
end

