-- ==== Sys2Proof/Machine/Platens.lean ====
section
/-! DEFINITION. The meanings of PLATEN-MODE, PLATEN-CONFIG and PLATEN-READ (03_platens.md). -/

namespace Sys2Proof.Machine

/-- The mode with a code (R49). -/
def modeOf : Nat → Option Mode
  | 0 => some .offline
  | 1 => some .blocked
  | 2 => some .wet
  | 3 => some .conditioning
  | 4 => some .polishing
  | _ => none

/-! ### The telling of a demotion (R51 to R53) -/

/-- A demotion halts a head in this state (R52). -/
def HeadState.demotionHalts : HeadState → Bool
  | .slurryWait | .wetting | .pressing | .overpolish | .starved => true
  | _ => false

/-- A head works for a step that names platen `p`, and a demotion of `p` halts it (R52). -/
def Head.demotedWith (d : Head) (p : PlatenIx) : Bool := d.state.demotionHalts && (d.workStep.map Step.platen) == some p

/-- The admitted doses of line `l` directed to platen `p` that are OPENING or FLOWING and that its present mode does not permit,
in admission order (R53). -/
def State.unpermitted (s : State) (l : LineIx) (p : PlatenIx) : List RecIx :=
  s.lines[l.val].admitted.filter fun r =>
    s.recs[r.val].state.live && s.recs[r.val].platen == some p && !permitted s.platens[p.val].mode s.recs[r.val].service

/-- Tells one head of a demotion of platen `p`; a count of the heads halted goes along (R52). -/
def tellHeadDemotion (p : PlatenIx) (a : State × Nat) (h : HeadIx) : State × Nat :=
  if a.1.heads[h.val].demotedWith p then (a.1.haltHead h .platenMode none none, a.2 + 1) else a

/-- Tells one line of a demotion of platen `p`; a count of the doses closed goes along (R53). -/
def tellLineDemotion (p : PlatenIx) (a : State × Nat) (l : LineIx) : State × Nat :=
  let doses := a.1.unpermitted l p
  (forEach doses (fun r s => s.closeAndTell r .platenMode) a.1, a.2 + doses.length)

/-- Tells the neighbours of a demotion of platen `p`, its mode already changed: the conditioner, every head, every line. The
results are the state, the heads halted and the doses closed (R51). -/
def State.tellDemotion (s : State) (p : PlatenIx) : State × Nat × Nat :=
  let s1 := if s.platens[p.val].mode.condition then s else s.modCond p fun c => c.emptied s.now .platenMode
  let a := allHeads.foldl (tellHeadDemotion p) (s1, 0)
  let b := allLines.foldl (tellLineDemotion p) (a.1, 0)
  (b.1, a.2, b.2)

/-- A promotion of platen `p`: on POLISHING, the heads in ARMED whose step names it test R7 again (R54). -/
def State.tellPromotion (s : State) (p : PlatenIx) : State :=
  if s.platens[p.val].mode = .polishing then
    forEach allHeads (fun h s => if (s.heads[h.val].step.map Step.platen) = some p then s.testArmed h else s) s
  else s

/-! ### PLATEN-MODE -/

/-- A change of the mode of platen `p` to another mode `m` (R50, R51, R54): the state, the doses closed and the heads halted. -/
def State.changeMode (s : State) (p : PlatenIx) (m : Mode) : State × Nat × Nat :=
  let before := s.platens[p.val].mode
  let s1 := s.modPlaten p fun c => { c with mode := m }
  let told : State × Nat × Nat := if m.code < before.code then s1.tellDemotion p else (s1.tellPromotion p, 0, 0)
  (told.1.round p fun _ _ => true, told.2.2, told.2.1)

/-- PLATEN-MODE (R50). -/
def handlePlatenMode : Handler := withBody parseTwo fun q s =>
  match toPlaten q.1, modeOf q.2 with
  | some p, some m =>
    let before := s.platens[p.val].mode
    if m = before then (.ok (p1 before.code ++ p1 0 ++ p1 0), s)
    else
      let c := s.changeMode p m
      (.ok (p1 before.code ++ p1 c.2.1 ++ p1 c.2.2), c.1)
  | _, _ => (.refuse .badValue, s)

/-- PLATEN_MODE (R50). -/
def execPlatenMode (tag : Byte) (body : List Byte) (s : State) : Outcome :=
  .next (arrive 0x20 tag body handlePlatenMode s)

/-! ### PLATEN-CONFIG -/

/-- PLATEN-CONFIG: the checks, the replacement, and the round over the lines holding queued doses for the platen (R57). DEDUCED (log
entry 29): the reservation in the reply is that at the acceptance, before the round. -/
def handlePlatenConfig : Handler := withBody parsePlatenConfig fun q s =>
  match toPlaten q.platen, q.config with
  | some p, some c =>
    let k := s.platens[p.val].reservation
    if c.flowLimit < k then (.refuse .inUse, s)
    else (.ok (p2 k), (s.modPlaten p fun n => { n with config := c }).round p fun s l => s.holdsFor l p)
  | _, _ => (.refuse .badValue, s)

/-- PLATEN_CONFIG (R57). -/
def execPlatenConfig (tag : Byte) (body : List Byte) (s : State) : Outcome :=
  .next (arrive 0x21 tag body handlePlatenConfig s)

/-! ### PLATEN-READ -/

/-- The number of records directed to platen `p` that pass `ok`. -/
def State.countDoses (s : State) (p : PlatenIx) (ok : DoseRec → Bool) : Nat :=
  s.recs.toList.countP fun d => d.platen == some p && ok d

/-- Whether head `d` presses on platen `p` (R12). -/
def Head.pressesOn (d : Head) (p : PlatenIx) : Bool := d.state.isPressing && (d.step.map Step.platen) == some p

/-- The head pressing on platen `p`. -/
def State.pressingHead (s : State) (p : PlatenIx) : Option HeadIx := allHeads.find? fun h => s.heads[h.val].pressesOn p

/-- The payload of PLATEN-READ (R59). -/
def State.platenPayload (s : State) (p : PlatenIx) : List Byte :=
  let c := s.platens[p.val]
  p1 c.mode.code ++ p2 c.config.flowLimit ++ p1 c.config.ceiling.val ++ many (fun k : ClassIx => p1 k.val) c.config.classes.toList
    ++ p2 c.reservation ++ p2 (c.config.flowLimit - c.reservation) ++ p1 c.nextLine.val
    ++ p1 (s.countDoses p fun d => d.state.admitted) ++ p1 (s.countDoses p fun d => d.state == .queued)
    ++ p1 (s.countDoses p fun d => d.state == .queued && !permitted c.mode d.service)
    ++ p1 (optCode ((s.pressingHead p).map (·.val)))

/-- PLATEN-READ (R59). -/
def handlePlatenRead : Handler := withBody parseOne <| withPlaten fun p s => (.ok (s.platenPayload p), s)

/-- PLATEN_READ (R59). -/
def execPlatenRead (tag : Byte) (body : List Byte) (s : State) : Outcome :=
  .next (arrive 0x22 tag body handlePlatenRead s)

end Sys2Proof.Machine
end

