-- ==== Sys2Proof/Machine/StoreOps.lean ====
section
/-! DEFINITION. The Settings Store's shared operations: the live configuration, the beginning of a save (R195, R196), the image it
writes, and the loading of an image into the blocks (R194, R197). -/

namespace Sys2Proof.Machine

/-! ### Saves -/

/-- Whether a save runs (R195). -/
def State.busy (s : State) : Bool := s.store.save != .none

/-- Every configuration row of R193 from the live values of its block. -/
def State.liveConfig (s : State) : ConfigRows where
  zoneCals := Vector.ofFn fun h : HeadIx => Vector.ofFn fun z : ZoneIx => s.heads[h.val].zones[z.val].cal
  limits := Vector.ofFn fun h : HeadIx => s.heads[h.val].limits
  inputCals := Vector.ofFn fun c : ChanIx => s.hub.channels[c.val].cal
  lines := Vector.ofFn fun l : LineIx => s.lines[l.val].config
  platens := Vector.ofFn fun p : PlatenIx => s.platens[p.val].config
  profiles := Vector.ofFn fun p : PlatenIx => s.conds[p.val].profile
  statics := Vector.ofFn fun p : PlatenIx => s.wears[p.val].statics
  routes := Vector.ofFn fun o : MonIx => s.hub.monitors[o.val].route
  liftTime := s.car.liftTime
  indexTimeout := s.car.indexTimeout

/-- Begins a save from the working copies as they stand: the content is captured, and the image loses its valid signature (R195,
items 1 and 2). -/
def State.beginSave (s : State) (cause : SaveCause) : State :=
  s.modStore fun u =>
    { u with
      save := .writing ⟨cause, u.workConfig, u.workCommitted, s.now⟩
      image := { u.image with signed := false } }

/-- The image a save leaves once its signature is written (R195, items 3 and 4). -/
def SaveJob.image (j : SaveJob) : Image := ⟨true, Config.layoutVersion, j.config, j.committed⟩

/-- What a WEAR-COMMIT captures of a wear map: each learned entry's valid flag and L, and the pad life (R146). -/
def WearMap.capture (m : WearMap) : Committed := ⟨Vector.ofFn fun g : SegIx => ⟨m.learned[g.val].valid, m.learned[g.val].torque⟩, m.life⟩

/-- The number of valid learned entries of a wear map. -/
def WearMap.validCount (m : WearMap) : Nat := m.learned.toList.countP LearnedEntry.valid

/-- Makes the ten learned entries invalid (R145, R147). -/
def WearMap.forget (m : WearMap) : WearMap :=
  { m with learned := Vector.ofFn fun g : SegIx => { m.learned[g.val] with valid := false } }

/-- Writes the capture of platen `p` into the working copy and begins the save (R146, R196). -/
def State.commit (s : State) (p : PlatenIx) (cause : SaveCause) : State :=
  (s.modStore fun u => { u with workCommitted := u.workCommitted.set p.val s.wears[p.val].capture }).beginSave cause

/-! ### Start-up -/

/-- Every block at its power-on values, with configuration and committed data as given, the stored image kept. The queue of
commands, the clock, the input wires and the draws are not the blocks' (R197, item 1; R30, R48, R60, R80, R106, R126, R151, R164,
R177, R192). -/
def State.powerOnBlocks (s : State) (c : ConfigRows) (m : Vector Committed 3) : State :=
  { s with
    restart := .none
    heads := Vector.ofFn fun h : HeadIx => Head.powerOn c.limits[h.val] c.zoneCals[h.val]
    recs := Vector.ofFn DoseRec.powerOn
    free := freeAtPowerOn
    counter := 0
    lines := Vector.ofFn fun l : LineIx => Line.powerOn c.lines[l.val]
    platens := Vector.ofFn fun p : PlatenIx => Platen.powerOn c.platens[p.val]
    conds := Vector.ofFn fun p : PlatenIx => Conditioner.powerOn c.profiles[p.val]
    wears := Vector.ofFn fun p : PlatenIx => WearMap.powerOn c.statics[p.val] m[p.val]
    watches := Vector.replicate 16 Watch.powerOn
    latches := Vector.replicate 8 ⟨0, none⟩
    car := Carousel.powerOn c.liftTime c.indexTimeout
    hub := Hub.powerOn c.inputCals c.routes }

/-- The start of a start-up with its cause: every block at its power-on values on the default items, which stand until the image is
read; the Link Port and the store at theirs, the image kept (R197, item 1; log entry 4). -/
def State.beginStartup (s : State) (cause : StartCause) : State :=
  { s.powerOnBlocks ConfigRows.default (Vector.replicate 3 Committed.default) with
    power := .starting cause s.now
    link := Link.powerOn
    store := Store.powerOn s.store.image }

end Sys2Proof.Machine
end

