-- ==== Sys2Proof/Machine/Conditioning.lean ====
section
/-! DEFINITION. The meanings of the requests to a conditioner and a wear map, and of their timers
(07_pad_conditioning_and_the_wear_map.md). -/

namespace Sys2Proof.Machine

/-! ### COND-PROFILE, COND-RUN, COND-STOP -/

/-- COND-PROFILE (R134). -/
def handleCondProfile : Handler := withBody parseProfile fun q s =>
  match toPlaten q.1 with
  | none => (.refuse .badValue, s)
  | some p =>
    if !q.2.inRange then (.refuse .badValue, s)
    else if s.conds[p.val].arm ≠ .stowed then (.refuse .wrongState, s)
    else (.ok [], s.modCond p fun c => { c with profile := q.2 })

/-- COND_PROFILE (R134). -/
def execCondProfile (tag : Byte) (body : List Byte) (s : State) : Outcome :=
  .next (arrive 0x38 tag body handleCondProfile s)

/-- The host holder a sweep count asks for: 0 for continuous (R131). -/
def holdOf (n : Nat) : HostHold := if n = 0 then .continuous else .sweeps n

/-- The host holder's remaining count in a reply: 0 for continuous, 65535 for absent (R131). -/
def remainingCode : Option HostHold → Nat
  | none => 65535
  | some .continuous => 0
  | some (.sweeps n) => n

/-- COND-RUN with its four checks; the payload is the arm state after and the remaining count before (R131). -/
def handleCondRun : Handler := withBody parseRun fun q s =>
  match toPlaten q.1 with
  | none => (.refuse .badValue, s)
  | some p =>
    if 1000 < q.2 then (.refuse .badValue, s)
    else if s.stop then (.refuse .stopped, s)
    else if !s.platens[p.val].mode.condition then (.refuse .wrongState, s)
    else if s.car.state ≠ .idle then (.refuse .indexing, s)
    else
      let s' := s.modCond p fun c => c.joinHost (holdOf q.2) s.now
      (.ok (p1 s'.conds[p.val].arm.code ++ p2 (remainingCode s.conds[p.val].host)), s')

/-- COND_RUN (R131). -/
def execCondRun (tag : Byte) (body : List Byte) (s : State) : Outcome := .next (arrive 0x39 tag body handleCondRun s)

/-- The payload of a COND-STOP reply: the arm state and the sweep count (R132). DESIGN CHOICE (log entry 31): a STOWED conditioner,
which has no present lowering, gives the count of its last one. -/
def Conditioner.stopPayload (c : Conditioner) : List Byte := p1 c.arm.code ++ p2 c.sweeps

/-- COND-STOP (R132). -/
def handleCondStop : Handler := withBody parseOne <| withPlaten fun p s =>
  if s.conds[p.val].host.isNone then (.idle s.conds[p.val].stopPayload, s)
  else
    let s' := s.modCond p fun c => c.dropHost s.now .hostStop
    (.ok s'.conds[p.val].stopPayload, s')

/-- COND_STOP (R132). -/
def execCondStop (tag : Byte) (body : List Byte) (s : State) : Outcome := .next (arrive 0x3A tag body handleCondStop s)

/-! ### Pad and static entries -/

/-- The three conditions of a PAD-CHANGE (R145). -/
def State.canChangePad (s : State) (p : PlatenIx) : Bool :=
  s.conds[p.val].arm == .stowed && (s.pressingHead p).isNone && !s.platens[p.val].mode.slurry

/-- PAD-CHANGE; the payload is the pad life before the request (R145). -/
def handlePadChange : Handler := withBody parseOne <| withPlaten fun p s =>
  if s.canChangePad p then
    (.ok (p4 s.wears[p.val].life), s.modWear p fun m => { m.forget with life := 0, remainder := 0 })
  else (.refuse .wrongState, s)

/-- PAD_CHANGE (R145). -/
def execPadChange (tag : Byte) (body : List Byte) (s : State) : Outcome := .next (arrive 0x3B tag body handlePadChange s)

/-- A static factor within its range (R143). -/
def clampFactor (n : Nat) : Nat := max 128 (min 512 n)

/-- The bytes of a static entry. -/
def StaticEntry.bytes (e : StaticEntry) : List Byte := p1 (bit e.valid) ++ p1 (bit e.override) ++ p2 e.factor

/-- WEAR-SET; the factor is clamped, and the payload is the entry as it stands after (R143). -/
def handleWearSet : Handler := withBody parseWearSet fun q s =>
  match toPlaten q.platen, toIx 10 q.segment with
  | some p, some g =>
    if 1 < q.valid ∨ 1 < q.override then (.refuse .badValue, s)
    else
      let e : StaticEntry := ⟨q.valid == 1, q.override == 1, clampFactor q.factor⟩
      (⟨.ok, clampFactor q.factor != q.factor, false, e.bytes⟩, s.modWear p fun m => m.modStatic g fun _ => e)
  | _, _ => (.refuse .badValue, s)

/-- WEAR_SET (R143). -/
def execWearSet (tag : Byte) (body : List Byte) (s : State) : Outcome := .next (arrive 0x3C tag body handleWearSet s)

/-! ### WEAR-READ (R148) -/

/-- The seconds since the last update of a learned entry, 600 for one that is stale or was never updated (R148). DESIGN CHOICE (log
entry 32): whole seconds, what is left of the ms cut off. -/
def LearnedEntry.age (e : LearnedEntry) (now : Nat) : Nat :=
  match e.updated with
  | none => 600
  | some t => min 600 ((now - t) / 1000)

/-- The bytes of a learned entry under the present reference torque (R148). -/
def LearnedEntry.bytes (e : LearnedEntry) (now refTorque : Nat) : List Byte :=
  p1 (bit e.valid) ++ p4 e.torque ++ p1 (bit (e.fresh now)) ++ p2 (e.age now)
    ++ p2 (if e.valid then learnedFactor refTorque e.torque else 512)

/-- The number of the present dwell within its sweep, 1 to 20 (R135). -/
def Conditioner.dwellNumber (c : Conditioner) : Nat := if c.inward then 20 - c.segment.val else c.segment.val + 1

/-- The host holder in WEAR-READ: present or absent, and the remaining count, an open value when absent (R148, log entry 7). -/
def hostBytes : Option HostHold → List Byte
  | none => p1 0 ++ p2 Config.absentHostCount
  | some .continuous => p1 1 ++ p2 0
  | some (.sweeps n) => p1 1 ++ p2 n

/-- The conditioner part of WEAR-READ (R148). -/
def Conditioner.payload (c : Conditioner) : List Byte :=
  let on := c.arm == .sweeping
  p1 c.arm.code ++ hostBytes c.host ++ p1 (optCode (c.head.map (·.val)))
    ++ p1 (if on then c.segment.val else 0) ++ p1 (if on then bit c.inward else 0) ++ p1 (if on then c.dwellNumber else 0)
    ++ p2 (if on then c.factor else 0) ++ p1 (if on then c.factorSource.code else 0) ++ p2 (if on then c.dwell else 0)
    ++ p2 c.sweeps ++ p2 c.learned ++ p2 c.profile.baseDwell ++ p2 c.profile.refTorque ++ p2 c.profile.downforce
    ++ p1 (EndReason.code (if c.arm = .raising then c.endReason else none))

/-- The payload of WEAR-READ (R148). -/
def State.wearPayload (s : State) (p : PlatenIx) : List Byte :=
  let m := s.wears[p.val]
  many StaticEntry.bytes m.statics.toList
    ++ many (fun e => LearnedEntry.bytes e s.now s.conds[p.val].profile.refTorque) m.learned.toList
    ++ many (fun g => p2 (s.lookup p g).1 ++ p1 (s.lookup p g).2.code) (List.finRange 10)
    ++ p4 m.life ++ p2 m.remainder ++ s.conds[p.val].payload

/-- WEAR-READ (R148). -/
def handleWearRead : Handler := withBody parseOne <| withPlaten fun p s => (.ok (s.wearPayload p), s)

/-- WEAR_READ (R148). -/
def execWearRead (tag : Byte) (body : List Byte) (s : State) : Outcome := .next (arrive 0x3D tag body handleWearRead s)

/-! ### WEAR-COMMIT, WEAR-DISCARD, WEAR-RETIRE -/

/-- WEAR-COMMIT; the payload is the number of valid entries and the pad life captured (R146). -/
def handleWearCommit : Handler := withBody parseOne <| withPlaten fun p s =>
  if s.busy then (.refuse .busy, s)
  else (.ok (p1 s.wears[p.val].validCount ++ p4 s.wears[p.val].life), s.commit p (.wearCommit p))

/-- WEAR_COMMIT (R146). -/
def execWearCommit (tag : Byte) (body : List Byte) (s : State) : Outcome := .next (arrive 0x3E tag body handleWearCommit s)

/-- WEAR-DISCARD; the payload is the number of entries that were valid (R147). -/
def handleWearDiscard : Handler := withBody parseOne <| withPlaten fun p s =>
  (.ok (p1 s.wears[p.val].validCount), s.modWear p WearMap.forget)

/-- WEAR_DISCARD (R147). -/
def execWearDiscard (tag : Byte) (body : List Byte) (s : State) : Outcome :=
  .next (arrive 0x3F tag body handleWearDiscard s)

/-- WEAR-RETIRE: the commit of R146, and then the entries are invalid (R147). -/
def handleWearRetire : Handler := withBody parseOne <| withPlaten fun p s =>
  if s.busy then (.refuse .busy, s)
  else (.ok (p1 s.wears[p.val].validCount), (s.commit p (.wearRetire p)).modWear p WearMap.forget)

/-- WEAR_RETIRE (R147). -/
def execWearRetire (tag : Byte) (body : List Byte) (s : State) : Outcome := .next (arrive 0x40 tag body handleWearRetire s)

/-! ### Arm timers -/

/-- The lowering ends: the arm sweeps, and the first dwell begins on S0, outward (R130, R135). -/
def State.loweringEnds (s : State) (p : PlatenIx) : State :=
  if s.conds[p.val].arm = .lowering then (s.reach (s.conds[p.val].entered + Config.armTime)).beginDwell p 0 false else s

/-- COND_LOWERING_END (R130). -/
def execCondLoweringEnd (p : PlatenIx) (s : State) : Outcome := .next (s.whenRunning (·.loweringEnds p))

/-- The raise ends: STOWED, the COND-END notice, the report to the interlock, and a new lowering if the set is not empty (R130). -/
def State.raisingEnds (s : State) (p : PlatenIx) : State :=
  let c := s.conds[p.val]
  if c.arm = .raising then
    let s1 := (s.reach (c.entered + Config.armTime)).modCond p fun c => { c with arm := .stowed }
    let s2 := (s1.post (.condEnd p c.endReason c.sweeps c.segment c.learned !c.unheld)).testLifted
    if s2.conds[p.val].unheld then s2 else s2.modCond p fun c => c.lower s2.now
  else s

/-- COND_RAISING_END (R130). -/
def execCondRaisingEnd (p : PlatenIx) (s : State) : Outcome := .next (s.whenRunning (·.raisingEnds p))

/-! ### Dwells and learning -/

/-- The torque sample of a dwell that ended whole: the mean of its samples, truncated toward zero, at least 0 (R141). Without one
sample the mean is an open value among the samples' values (log entry 6). -/
def torqueMean (sum : Int) (count draws : Nat) : Nat :=
  (clampInt 0 2147483647 (if count = 0 then Config.unsampledTorque draws else truncDiv sum count)).toNat

/-- A learned entry after the update with a torque sample (R142). -/
def LearnedEntry.update (e : LearnedEntry) (sample now : Nat) : LearnedEntry :=
  ⟨true, if e.valid then ((e.torque : Int) + truncDiv ((sample : Int) - e.torque) 8).toNat else sample, some now⟩

/-- The learning step at the end of a whole dwell of platen `p` (R141, R142): nothing where the mode does not permit learning. -/
def State.learn (s : State) (p : PlatenIx) : State :=
  let c := s.conds[p.val]
  if s.platens[p.val].mode.learn then
    let sample := torqueMean c.torqueSum c.torqueCount s.draws
    let s1 := (s.modWear p fun m => m.modLearned c.segment fun e => e.update sample s.now).modCond p fun c =>
      { c with learned := holdAt 65535 (c.learned + 1) }
    if c.torqueCount = 0 then { s1 with draws := s1.draws + 1 } else s1
  else s

/-- The host holder's count after a sweep, `none` once it has reached 0 (R135). -/
def HostHold.countDown : HostHold → Option HostHold
  | .continuous => some .continuous
  | .sweeps n => if n ≤ 1 then none else some (.sweeps (n - 1))

/-- A conditioner at the end of a sweep: the sweep count rises, the host count falls, and at 0 the host leaves with COUNT (R135). -/
def Conditioner.sweepEnd (c : Conditioner) (now : Nat) : Conditioner :=
  let c' := { c with sweeps := holdAt 65535 (c.sweeps + 1) }
  match c.host with
  | none => c'
  | some k =>
    match k.countDown with
    | some k' => { c' with host := some k' }
    | none => c'.dropHost now .count

/-- The dwell after one on segment `g` in the pattern of a sweep; `none` at the end of the sweep (R135). -/
def nextDwell (g : SegIx) (inward : Bool) : Option (SegIx × Bool) :=
  match inward with
  | false => if g.val = 9 then some (g, true) else some (g + 1, false)
  | true => if g.val = 0 then none else some (g - 1, true)

/-- A dwell ends whole: the learning step, then the next dwell of the pattern, or the end of the sweep (R135, R141). -/
def State.dwellEnds (s : State) (p : PlatenIx) : State :=
  let c := s.conds[p.val]
  if c.arm = .sweeping then
    let s1 := (s.reach (c.entered + c.dwell)).learn p
    match nextDwell c.segment c.inward with
    | some d => s1.beginDwell p d.1 d.2
    | none =>
      let s2 := s1.modCond p fun c => c.sweepEnd s1.now
      if s2.conds[p.val].arm = .sweeping then s2.beginDwell p 0 false else s2
  else s

/-- COND_DWELL_END (R135). -/
def execCondDwellEnd (p : PlatenIx) (s : State) : Outcome := .next (s.whenRunning (·.dwellEnds p))

/-- 600 s have passed since the last update of a learned entry: it is stale (R138). -/
def State.entryStale (s : State) (p : PlatenIx) (g : SegIx) : State :=
  match s.wears[p.val].learned[g.val].updated with
  | none => s
  | some t => (s.reach (t + Config.freshTime)).modWear p fun m => m.modLearned g fun e => { e with updated := none }

/-- LEARNED_ENTRY_STALE (R138). -/
def execLearnedEntryStale (p : PlatenIx) (g : SegIx) (s : State) : Outcome := .next (s.whenRunning (·.entryStale p g))

/-! ### Pad life (R144) -/

/-- A wear map after one more ms of pressing, counted up to the moment `t`. -/
def WearMap.tick (m : WearMap) (t : Nat) : WearMap :=
  if m.remainder + 1 < 1000 then { m with remainder := m.remainder + 1, ticked := t }
  else { m with remainder := m.remainder + 1 - 1000, life := holdAt max32 (m.life + 1), ticked := t }

/-- One ms during which a head presses on platen `p` passes. -/
def State.lifeTick (s : State) (p : PlatenIx) : State :=
  match s.pressingHead p with
  | none => s
  | some h =>
    let t := max s.wears[p.val].ticked s.heads[h.val].pressStart + 1
    (s.reach t).modWear p fun m => m.tick t

/-- PAD_LIFE_TICK (R144). -/
def execPadLifeTick (p : PlatenIx) (s : State) : Outcome := .next (s.whenRunning (·.lifeTick p))

end Sys2Proof.Machine
end

