-- ==== Sys2Proof/Machine/Doses.lean ====
section
/-! DEFINITION. The meanings of the requests to the Dose Pool (04_the_dose_pool.md) and of the events of an admitted dose
(R76, R77, R95 to R97). -/

namespace Sys2Proof.Machine

/-! ### DOSE-SUBMIT (R66 to R69) -/

/-- The record a submission fills: its class fixed under R58, its peak the largest segment rate, its counts at 0 (R68). -/
def DoseBody.record (q : DoseBody) (p : PlatenIx) (l : LineIx) (cls : ClassIx) (now : Nat) : DoseRec where
  state := .queued
  sequence := 0
  label := q.label
  platen := some p
  line := l
  purpose := q.purpose
  cls := cls
  service := flagOf q.flags 0
  policy := policyOf q.policy
  segments := q.segments.map fun g => ⟨g.1, some g.2⟩
  cap := if q.cap = 0 then none else some q.cap
  peak := q.peak
  segment := 0
  segTime := 0
  flowTime := 0
  acc := 0
  reason := none
  since := now
  tickDue := 0

/-- DOSE-SUBMIT with its six checks in order (R66, R67, R68). The payload gives the record, the class, the sequence number and the
free count after the submission. -/
def handleDoseSubmit : Handler := withBody parseDose fun q s =>
  match toPlaten q.platen, toIx 4 q.line with
  | some p, some l =>
    if !q.inRange then (.refuse .badValue, s)
    else if q.sum < q.cap * 6000 then (.refuse .badValue, s)
    else
      match s.lineChecks l p q.peak, s.free with
      | some r, _ => (.refuse r, s)
      | none, [] => (.refuse .poolEmpty, s)
      | none, r :: rest =>
        let cls := s.platens[p.val].config.classFor q.purpose
        let s' := { s with free := rest }.enqueue r (q.record p l cls s.now)
        (.ok (p1 r.val ++ p1 cls.val ++ p4 s'.counter ++ p1 rest.length), s'.attempt l)
  | _, _ => (.refuse .badValue, s)

/-- DOSE_SUBMIT (R68). -/
def execDoseSubmit (tag : Byte) (body : List Byte) (s : State) : Outcome := .next (arrive 0x28 tag body handleDoseSubmit s)

/-! ### DOSE-CANCEL, DOSE-READ, DOSE-RELEASE -/

/-- Ends a tool-controller dose before its time: a queued dose completes at once with CANCELLED and its line makes an attempt; an
admitted dose closes (R70). -/
def State.cancel (s : State) (r : RecIx) : State :=
  if s.recs[r.val].state = .queued then ((s.unqueue r .cancelled).poolDone r).attempt s.recs[r.val].line
  else s.close r .cancelled

/-- DOSE-CANCEL; the payload is the state the request gave the record (R70). -/
def handleDoseCancel : Handler := withBody parseOne <| withIx 64 fun r s =>
  let d := s.recs[r.val]
  if r.val < 8 then (.refuse .wrongState, s)
  else if d.state = .queued ∨ d.state.live = true then
    let s' := s.cancel r
    (.ok (p1 s'.recs[r.val].state.code), s')
  else (.refuse .wrongState, s)

/-- DOSE_CANCEL (R70). -/
def execDoseCancel (tag : Byte) (body : List Byte) (s : State) : Outcome := .next (arrive 0x29 tag body handleDoseCancel s)

/-- The time a record has spent in its present state (R75). -/
def DoseRec.timeInState (d : DoseRec) (now : Nat) : Nat := if d.state.present then holdAt max32 (now - d.since) else 0

/-- The bytes of one segment; an open-ended one carries an open value (log entry 7). -/
def Segment.bytes (g : Segment) : List Byte := p2 g.rate ++ p4 (g.duration.getD Config.openEndedDuration)

/-- The payload of DOSE-READ (R75). The owner is the head, or 4 for the tool controller; a cap of 0 is absent (log entry 8). -/
def State.dosePayload (s : State) (r : RecIx) : List Byte :=
  let d := s.recs[r.val]
  p1 r.val ++ p1 (if r.val < 8 then r.val / 2 else 4) ++ p1 d.state.code ++ p4 d.sequence ++ p2 d.label ++ p1 (optPlaten d.platen)
    ++ p1 d.line.val ++ p1 d.purpose ++ p1 d.cls.val ++ p1 (bit d.service) ++ p1 d.policy.code ++ p1 d.segments.length
    ++ many Segment.bytes d.segments ++ p4 (d.cap.getD 0) ++ p2 d.peak ++ p1 d.segment ++ p4 d.segTime ++ p4 d.flowTime
    ++ p1 (DoseReason.code d.reason) ++ p4 d.delivered ++ p4 (d.timeInState s.now)

/-- DOSE-READ (R75). -/
def handleDoseRead : Handler := withBody parseOne <| withIx 64 fun r s => (.ok (s.dosePayload r), s)

/-- DOSE_READ (R75). -/
def execDoseRead (tag : Byte) (body : List Byte) (s : State) : Outcome := .next (arrive 0x2A tag body handleDoseRead s)

/-- DOSE-RELEASE: a HELD record joins the tail of the free list; the payload is the free count after it (R74). -/
def handleDoseRelease : Handler := withBody parseOne <| withIx 64 fun r s =>
  if s.recs[r.val].state = .held then (.ok (p1 (s.giveBack r).free.length), s.giveBack r) else (.refuse .wrongState, s)

/-- DOSE_RELEASE (R74). -/
def execDoseRelease (tag : Byte) (body : List Byte) (s : State) : Outcome := .next (arrive 0x2B tag body handleDoseRelease s)

/-! ### OPENING (R95, R96) -/

/-- Entry to FLOWING: segment 1 becomes current with segment time 0, and metering begins (R76, R96). -/
def DoseRec.flow (d : DoseRec) (now : Nat) : DoseRec :=
  { d with state := .flowing, since := now, segment := 1, segTime := 0, tickDue := now + 1 }

/-- The opening of a record ends: it flows, and a head record's entry is told (R95, R96, R79). -/
def State.openingEnds (s : State) (r : RecIx) : State :=
  if s.recs[r.val].state = .opening then
    let s' := s.reach (s.recs[r.val].since + Config.openingTime)
    (s'.modRec r fun d => d.flow s'.now).tellFlowing r
  else s

/-- DOSE_OPENING_END (R95). -/
def execDoseOpeningEnd (r : RecIx) (s : State) : Outcome := .next (s.whenRunning (·.openingEnds r))

/-! ### FLOWING (R76, R77) -/

/-- `n` more ms of metering in the current segment: the accumulator grows by the rate for each, the segment time and the flow time by
one, each held at its limit (R76). -/
def DoseRec.meter (d : DoseRec) (n : Nat) : DoseRec :=
  { d with
    acc := holdAt max48 (d.acc + n * d.rate)
    segTime := holdAt max32 (d.segTime + n)
    flowTime := holdAt max32 (d.flowTime + n)
    tickDue := d.tickDue + n }

/-- The ms of metering left in the current segment; `none` for an open-ended one. -/
def DoseRec.segmentLeft (d : DoseRec) : Option Nat :=
  (d.currentSegment.bind Segment.duration).map fun t => t - d.segTime

/-- The ms of metering left to the cap moment at the current rate: the first whole ms at the end of which the accumulator is at or
above the cap (R77); `none` without a cap, or at rate 0. -/
def DoseRec.capLeft (d : DoseRec) : Option Nat :=
  d.cap.bind fun c => if d.rate = 0 then none else some ((c * 6000 - d.acc + d.rate - 1) / d.rate)

/-- Meters `n` ms of a FLOWING record, the clock brought to their end; the line volume total grows by the same (R96). -/
def State.meter (s : State) (r : RecIx) (n : Nat) : State :=
  let d := s.recs[r.val]
  ((s.reach (d.tickDue + n - 1)).modRec r fun d => d.meter n).modLine d.line fun l =>
    { l with volume := holdAt max48 (l.volume + n * d.rate) }

/-- One ms of a FLOWING record passes: it is metered, unless its segment or its cap has already come to its end (R76). DESIGN CHOICE
(log entry 17): the tick only meters; the segment's end and the cap moment that fall at its end are the commands of their own rows. -/
def State.meterTick (s : State) (r : RecIx) : State :=
  let d := s.recs[r.val]
  if d.state = .flowing ∧ d.segmentLeft ≠ some 0 ∧ d.capLeft ≠ some 0 then s.meter r 1 else s

/-- DOSE_METER_TICK (R76). -/
def execDoseMeterTick (r : RecIx) (s : State) : Outcome := .next (s.whenRunning (·.meterTick r))

/-- The next segment becomes current, or after the last the dose closes with COMPLETE (R76). -/
def State.nextSegment (s : State) (r : RecIx) : State :=
  let d := s.recs[r.val]
  if d.segment < d.segments.length then s.modRec r fun d => { d with segment := d.segment + 1, segTime := 0 }
  else s.close r .complete

/-- The current segment of a FLOWING record ends: what of it is not yet metered is metered first. Where its cap falls in the segment,
its end included, the dose closes with CAPPED (R76, R77). -/
def State.segmentEnds (s : State) (r : RecIx) : State :=
  let d := s.recs[r.val]
  match d.state, d.segmentLeft with
  | .flowing, some n =>
    match d.capLeft with
    | none => (s.meter r n).nextSegment r
    | some k => if k ≤ n then (s.meter r k).close r .capped else (s.meter r n).nextSegment r
  | _, _ => s

/-- DOSE_SEGMENT_END (R76). -/
def execDoseSegmentEnd (r : RecIx) (s : State) : Outcome := .next (s.whenRunning (·.segmentEnds r))

/-- The cap moment of a FLOWING record comes in its current segment: what is not yet metered is metered, and it closes with CAPPED
(R77). Where the segment ends before the cap moment, the event does not come in it. -/
def State.capReached (s : State) (r : RecIx) : State :=
  let d := s.recs[r.val]
  match d.state, d.capLeft with
  | .flowing, some k =>
    match d.segmentLeft with
    | none => (s.meter r k).close r .capped
    | some n => if k ≤ n then (s.meter r k).close r .capped else s
  | _, _ => s

/-- DOSE_CAP_REACHED (R77). -/
def execDoseCapReached (r : RecIx) (s : State) : Outcome := .next (s.whenRunning (·.capReached r))

/-! ### CLOSING (R97) -/

/-- The closing of a record ends and the dose completes (R97). -/
def State.closingEnds (s : State) (r : RecIx) : State :=
  if s.recs[r.val].state = .closing then (s.reach (s.recs[r.val].since + Config.closingTime)).closingEnd r else s

/-- DOSE_CLOSING_END (R97). -/
def execDoseClosingEnd (r : RecIx) (s : State) : Outcome := .next (s.whenRunning (·.closingEnds r))

end Sys2Proof.Machine
end

