-- ==== Sys2Proof/Machine/WatchOps.lean ====
section
/-! DEFINITION. The present values of sources (R170, R172), the evaluation and the firing of a watch (R113 to R120), and what the other
users of a sample do with it (R42, R102, R103, R141, R173). -/

namespace Sys2Proof.Machine

/-- The present value of a source, the value SOURCE-READ gives (R170, R172). -/
def State.sourceValue (s : State) : Source → Int
  | .constant => 0
  | .pressure h z => s.processed h z
  | .command h z => s.heads[h.val].zones[z.val].command
  | .friction p => s.hub.channels[20 + p.val].scaled
  | .reflectance p => s.hub.channels[23 + p.val].scaled
  | .torque p => s.hub.channels[26 + p.val].scaled
  | .flow l => s.hub.channels[29 + l.val].scaled
  | .platenReservation p => s.platens[p.val].reservation
  | .lineReservation l => s.lines[l.val].reservation
  | .padLife p => min 2147483647 s.wears[p.val].life
  | .latch i => s.latches[i.val].value
  | .stepClock h => s.heads[h.val].clock s.now

/-- The latest raw code and scaled value of a channel after a conversion of the code `raw` (R171). -/
def Channel.convert (c : Channel) (raw : Nat) : Channel := { c with raw := raw, scaled := c.cal.scale raw }

/-! ### Evaluation (R113 to R116) -/

/-- The filter of R114: the history after the sample `v`. -/
def Watch.filtered (k : Watch) (v : Int) : List Int :=
  let kept := match k.prevAvg with
    | none => k.history
    | some a => if 0 < k.defn.window ∧ k.history ≠ [] ∧ k.defn.window < (v - a).natAbs then [] else k.history
  let joined := kept ++ [v]
  if k.defn.count < joined.length then joined.drop 1 else joined

/-- The average of a history: its sum divided by its count, truncated toward zero (R114). -/
def average (xs : List Int) : Int := truncDiv xs.sum xs.length

/-- The condition of the relation on an average (R115). -/
def Watch.holds (k : Watch) (a : Int) : Bool :=
  let t := k.defn.threshold
  match k.defn.relation with
  | .above => t < a
  | .below => a < t
  | .rises => t < a && (k.crossed || (match k.prevAvg with | none => false | some b => b ≤ t))
  | .falls => a < t && (k.crossed || (match k.prevAvg with | none => false | some b => t ≤ b))

/-- Whether a relation keeps a crossed mark (R115). -/
def Relation.crosses : Relation → Bool
  | .rises | .falls => true
  | _ => false

/-- The watch after the filter, the test and the move of R116 and R120 at a sample `v` at time `now`; and whether it fires. -/
def Watch.evaluate (k : Watch) (v : Int) (now : Nat) : Watch × Bool :=
  let hist := k.filtered v
  let a := average hist
  let c := k.holds a
  let k' := { k with history := hist, prevAvg := some a, crossed := k.defn.relation.crosses && c }
  match k.state with
  | .watching =>
    if !c then (k', false)
    else if k.defn.hold = 0 then ({ k' with holdStart := some now }, true)
    else ({ k' with state := .holding, holdStart := some now }, false)
  | .holding =>
    if !c then ({ k' with state := .watching, holdStart := none }, false)
    else (k', k.defn.hold ≤ now - (k.holdStart.getD now))
  | .fired => (if k.defn.repeats && !c then { k' with state := .watching, holdStart := none } else k', false)
  | _ => (k, false)

/-! ### Firing (R117 to R120, R122) -/

/-- The outcome of a firing's action, from the state at the firing (R118, R119). `bound` is the bound head; `v` the value of the copy
source. -/
def State.outcomeOf (s : State) (d : WatchDef) (bound : Option HeadIx) (v : Int) : WatchOutcome :=
  match d.action with
  | .notify => .performed
  | .advance =>
    if bound = some d.target then
      (if s.heads[d.target.val].state = .pressing then .endpoint else .noEffect)
    else if s.heads[d.target.val].state.isPressing then .performed else .noEffect
  | .halt => if s.heads[d.target.val].state = .halted then .noEffect else .performed
  | .latch =>
    match d.dest with
    | .latch _ _ => .performed
    | .trim _ _ => if clampInt (-1000) 1000 v = v then .performed else .clamped

/-- The bound head is told of a firing: in PRESSING it is the endpoint, which a HALT of this same head only records; in OVERPOLISH
it is no second endpoint (R14, R15, R122). -/
def State.tellEndpoint (s : State) (d : WatchDef) (h : HeadIx) : State :=
  let c := s.heads[h.val]
  if c.state = .pressing then
    let s' := s.modHead h fun c => { c with endpoint := some (c.clock s.now) }
    if d.action = .halt ∧ d.target = h then s'
    else
      match c.step with
      | none => s'
      | some t =>
        if t.overpolish = 0 then s'.endAndSucceed h .endpoint
        else s'.modHead h fun c => { c with state := .overpolish, entered := s.now }
  else s

/-- The action of a firing (R118, R119). `bound` is the head the watch was bound to at the firing; `v` the copied value. -/
def State.act (s : State) (w : WatchIx) (d : WatchDef) (bound : Option HeadIx) (v : Int) : State :=
  match d.action with
  | .notify => s
  | .advance =>
    if bound = some d.target then s
    else if s.heads[d.target.val].state.isPressing then s.endAndSucceed d.target .advanced else s
  | .halt => s.haltHead d.target .watch none (some w)
  | .latch =>
    match d.dest with
    | .latch i _ => s.modLatch i fun _ => ⟨v, some w⟩
    | .trim h z => s.modHead h fun c => c.modZone z fun g => { g with trim := clampInt (-1000) 1000 v }

/-- The state of a watch after a firing (R120). DESIGN CHOICE (log entry 35): on the entry to FIRED there is no hold start any more; R116
and R120 are silent on it. -/
def Watch.afterFiring (k : Watch) : Watch :=
  if k.bound.isNone && !k.defn.repeats then k.disarm else { k with state := .fired, holdStart := none }

/-- A firing of watch `w` at the sample `v` (R117). The watch takes its next state before its head is told and its action is
performed, so that an unbinding or a fresh binding among these stands, as item 5 of R117 asks (DEDUCED, log entry 12). DESIGN CHOICE
(log entry 30): a watch that was unbound and that the head its own ADVANCE moves on binds keeps the state of that binding too. -/
def State.fire (s : State) (w : WatchIx) (v : Int) : State :=
  let k := s.watches[w.val]
  let d := k.defn
  let copied := s.sourceValue d.copy
  let n := holdAt 65535 (k.firings + 1)
  let s1 := s.modWatch w fun k => { k with firings := n }
  let s2 := s1.post (.watchFired w (k.prevAvg.getD 0) v d.threshold k.bound d.action (s.outcomeOf d k.bound copied) n)
  let s3 := s2.modWatch w Watch.afterFiring
  let s4 := match k.bound with
    | none => s3
    | some h => s3.tellEndpoint d h
  s4.act w d k.bound copied

/-- Watch `w` takes a sample `v` of its source (R113). -/
def State.watchSample (s : State) (w : WatchIx) (v : Int) : State :=
  let e := s.watches[w.val].evaluate v s.now
  let s' := s.modWatch w fun _ => e.1
  if e.2 then s'.fire w v else s'

/-! ### The other users of a sample -/

/-- The supervision of zone `z` of head `h` takes a sample `v` (R42). -/
def State.superviseSample (s : State) (h : HeadIx) (z : ZoneIx) (v : Int) : State :=
  let d := s.heads[h.val]
  if d.supervision = .testing then
    if d.limits.deviationTolerance < (v - d.zones[z.val].command).natAbs then
      let since := d.zones[z.val].deviating.getD s.now
      let s' := s.modHead h fun d => d.modZone z fun c => { c with deviating := some since }
      if d.limits.deviationTime ≤ s.now - since then s'.haltHead h .pressureDeviation (some z) none else s'
    else s.modHead h fun d => d.modZone z fun c => { c with deviating := none }
  else s

/-- The fault condition of a line whose expected flow is `e` (R102). -/
def flowFault (e : Nat) (measured : Int) (tolerance : Nat) : Bool :=
  if e = 0 then 50 < measured else e * tolerance / 100 < (measured - e).natAbs

/-- A line enters FAULTED (R103): a priming ends, its OPENING and FLOWING doses close with LINE-FAULT in admission order, and
LINE-FAULT is posted. -/
def State.faultLine (s : State) (l : LineIx) (measured : Int) : State :=
  let c := s.lines[l.val]
  let expected := s.pumpRate l
  let doses := c.admitted.filter fun r => s.recs[r.val].state.live
  let s1 := s.modLine l fun c => { c with state := .faulted, primeDue := none, faultSince := none }
  let s2 := forEach doses (fun r s => s.closeAndTell r .lineFault) s1
  s2.post (.lineFault l c.state expected measured doses.length)

/-- The flow check of line `l` takes a sample (R102, R103). -/
def State.flowSample (s : State) (l : LineIx) (v : Int) : State :=
  if s.checkRuns l then
    let c := s.lines[l.val]
    if flowFault (s.pumpRate l) v c.config.tolerance then
      let since := c.faultSince.getD s.now
      if c.config.faultTime ≤ s.now - since then s.faultLine l v
      else s.modLine l fun c => { c with faultSince := some since }
    else s.modLine l fun c => { c with faultSince := none }
  else s

/-- The conditioner of platen `p` gathers a torque sample during a dwell (R141). -/
def State.torqueSample (s : State) (p : PlatenIx) (v : Int) : State :=
  s.modCond p fun c =>
    if c.arm = .sweeping then { c with torqueSum := c.torqueSum + v, torqueCount := c.torqueCount + 1 } else c

/-- The code of a monitor output (R173). -/
def Route.codeOf (r : Route) (v : Int) : Nat :=
  (clampInt 0 4095 (truncDiv ((v - r.zero) * 4095) (r.full - r.zero))).toNat

/-- Sets the code of output `o` from a value of its source. -/
def Hub.drive (u : Hub) (o : MonIx) (v : Int) : Hub :=
  { u with monitors := u.monitors.set o.val { u.monitors[o.val] with code := u.monitors[o.val].route.codeOf v } }

/-- One user takes the sample `v` of the source `src` (R171). `first` says that it is the source's first sample since start-up. -/
def State.useSample (s : State) (src : Source) (v : Int) (first : Bool) : SampleUser → State
  | .autoZero =>
    match src with
    | .pressure h z =>
      if first then
        s.modHead h fun d => d.modZone z fun c =>
          { c with window := c.window.map fun w => if w.start = s.now then ⟨w.start, v⟩ else w }
      else s
    | _ => s
  | .watch w => if s.watches[w.val].defn.source = src then s.watchSample w v else s
  | .supervision =>
    match src with
    | .pressure h z => s.superviseSample h z v
    | _ => s
  | .flowCheck =>
    match src with
    | .flow l => s.flowSample l v
    | _ => s
  | .conditioner =>
    match src with
    | .torque p => s.torqueSample p v
    | _ => s
  | .monitor o => if s.hub.monitors[o.val].route.source = src then s.modHub (·.drive o v) else s

/-- The users of a sample in their fixed order. -/
def allUsers : List SampleUser := allWatches.map SampleUser.watch ++ [.supervision, .flowCheck, .conditioner, .monitor 0, .monitor 1]

/-- The moment of a source's next sample: STARTED for the first, 10 ms after the one before for every other (R171). -/
def State.sampleDue (s : State) (src : Source) : Nat :=
  match s.hub.sampled[(Source.place src).val] with
  | none => s.hub.startedAt
  | some t => t + Config.samplePeriod

/-- The hub keeps a sample of a flow source as that source's latest (R105). -/
def Hub.keepFlow (u : Hub) (src : Source) (v : Int) : Hub :=
  match src with
  | .flow l => { u with flows := u.flows.set l.val v }
  | _ => u

/-- A sample of the source `src`, its channel giving the raw code `raw` (R171): the clock is at the timer's expiry, the channel is
converted, and the value goes to every user in turn. -/
def State.sample (s : State) (src : Source) (raw : Nat) (order : List SampleUser) : State :=
  let first := s.hub.sampled[(Source.place src).val].isNone
  let t := s.sampleDue src
  let s1 := (s.reach t).modHub fun u => { u with sampled := u.sampled.set (Source.place src).val (some t) }
  let s2 := match Source.channel src with
    | none => s1
    | some c => s1.modHub fun u => { u with channels := u.channels.set c.val (u.channels[c.val].convert raw) }
  let v := s2.sourceValue src
  forEach (completeOrder order allUsers) (fun x s => s.useSample src v first x) (s2.modHub (·.keepFlow src v))

end Sys2Proof.Machine
end

