-- ==== Sys2Proof/Machine/Heads.lean ====
section
/-! DEFINITION. The meanings of the requests to a head and of its step timers (01_polish_heads_and_step_execution.md). -/

namespace Sys2Proof.Machine

/-! ### STEP-LOAD (R2) -/

/-- Checks 2 and 3 of STEP-LOAD, on the line a step names (R2). -/
def State.loadCheck (s : State) (t : Step) : Option Result :=
  match t.line with
  | none => none
  | some l =>
    if !s.lines[l.val].config.membership[t.platen.val] then some .notMember
    else if s.lines[l.val].config.capacity < t.rate || s.platens[t.platen.val].config.flowLimit < t.rate then some .badValue
    else none

/-- A step placed in a slot; in STARVED it becomes current at once and is judged against the held step, whose hold ends without a
second STEP-END (R2, R20). -/
def State.placeStep (s : State) (h : HeadIx) (t : Step) : State :=
  let s' := s.modHead h fun d => { d with steps := d.steps ++ [t] }
  match s.heads[h.val].state, s.heads[h.val].held with
  | .starved, some ended => (s'.modHead h fun d => { d with held := none }).succeed h ended
  | _, _ => s'

/-- STEP-LOAD with its four checks (R2). -/
def handleStepLoad : Handler := withBody parseStep fun q s =>
  match toIx 4 q.head, toPlaten q.platen with
  | some h, some p =>
    if !q.inRange then (.refuse .badValue, s)
    else
      match s.loadCheck (q.step p) with
      | some r => (.refuse r, s)
      | none =>
        if 2 ≤ s.heads[h.val].steps.length then (.refuse .slotsFull, s)
        else (.ok (p1 (s.heads[h.val].steps.length + 1)), s.placeStep h (q.step p))
  | _, _ => (.refuse .badValue, s)

/-- STEP_LOAD (R2). -/
def execStepLoad (tag : Byte) (body : List Byte) (s : State) : Outcome := .next (arrive 0x10 tag body handleStepLoad s)

/-! ### HEAD-START, HEAD-HALT, HEAD-RESUME, HEAD-FLUSH -/

/-- HEAD-START with its checks (R4). -/
def handleHeadStart : Handler := withBody parseOne <| withIx 4 fun h s =>
  let d := s.heads[h.val]
  if s.stop then (.refuse .stopped, s)
  else if d.state ≠ .idle ∨ d.steps = [] then (.refuse .wrongState, s)
  else if s.car.state ≠ .idle then (.refuse .indexing, s)
  else (.ok [], (s.modHead h Head.makeCurrent).enterArmed h)

/-- HEAD_START (R4). -/
def execHeadStart (tag : Byte) (body : List Byte) (s : State) : Outcome := .next (arrive 0x11 tag body handleHeadStart s)

/-- HEAD-HALT (R24). -/
def handleHeadHalt : Handler := withBody parseOne <| withIx 4 fun h s => (.ok [], s.haltHead h .host none none)

/-- HEAD_HALT (R24). -/
def execHeadHalt (tag : Byte) (body : List Byte) (s : State) : Outcome := .next (arrive 0x12 tag body handleHeadHalt s)

/-- HEAD-RESUME (R24); the interlock is told of the head in IDLE (R155). -/
def handleHeadResume : Handler := withBody parseOne <| withIx 4 fun h s =>
  if s.stop then (.refuse .stopped, s)
  else if s.heads[h.val].state ≠ .halted then (.refuse .wrongState, s)
  else (.ok [], (s.modHead h fun d => { d with haltReason := none }).enterIdle h)

/-- HEAD_RESUME (R24). -/
def execHeadResume (tag : Byte) (body : List Byte) (s : State) : Outcome := .next (arrive 0x13 tag body handleHeadResume s)

/-- What a flush does by the head's state, once the steps that are not current are discarded (R25). -/
def State.flushBy (s : State) (h : HeadIx) : State :=
  match s.heads[h.val].state with
  | .idle | .halted => s
  | .armed => (s.endStep h .flushed).enterIdle h
  | .slurryWait => ((s.endStep h .flushed).releaseDose h).enterIdle h
  | .wetting | .pressing | .overpolish => (s.endStep h .flushed).enterReleasing h
  | .starved => (s.endHeld h .flushed).enterReleasing h
  | .releasing => s.endStep h .flushed

/-- HEAD-FLUSH (R25). -/
def handleHeadFlush : Handler := withBody parseOne <| withIx 4 fun h s =>
  let d := s.heads[h.val]
  let kept := if d.current then d.steps.take 1 else []
  (.ok (p1 (d.steps.length - kept.length)), (s.modHead h fun d => { d with steps := kept }).flushBy h)

/-- HEAD_FLUSH (R25). -/
def execHeadFlush (tag : Byte) (body : List Byte) (s : State) : Outcome := .next (arrive 0x14 tag body handleHeadFlush s)

/-! ### HEAD-STANDBY, TRIM-SET, HEAD-LIMITS -/

/-- Whether a head is at rest, in IDLE or HALTED. -/
def Head.atRest (d : Head) : Bool := d.state == .idle || d.state == .halted

/-- HEAD-STANDBY: the mode is stored and takes effect on the zones at once (R26). -/
def handleHeadStandby : Handler := withBody parseTwo fun q s =>
  match toIx 4 q.1, (match q.2 with | 0 => some Standby.vent | 1 => some .chuck | _ => none) with
  | some h, some b =>
    if !s.heads[h.val].atRest then (.refuse .wrongState, s)
    else (.ok [], (s.modHead h fun d => { d with standby := b }).toStandby h)
  | _, _ => (.refuse .badValue, s)

/-- HEAD_STANDBY (R26). -/
def execHeadStandby (tag : Byte) (body : List Byte) (s : State) : Outcome := .next (arrive 0x15 tag body handleHeadStandby s)

/-- A trim within its range (R27). -/
def clampTrim (x : Int) : Int := clampInt (-1000) 1000 x

/-- TRIM-SET: five trims, each clamped, with the clamped flag if any was (R27). -/
def handleTrimSet : Handler := withBody parseTrim fun q s =>
  withIx 4 (fun h s =>
    (⟨.ok, q.trims.toList.any fun x => clampTrim x != x, false, []⟩,
      s.modHead h fun d => d.mapZones fun z c => { c with trim := clampTrim q.trims[z.val] })) q.head s

/-- TRIM_SET (R27). -/
def execTrimSet (tag : Byte) (body : List Byte) (s : State) : Outcome := .next (arrive 0x16 tag body handleTrimSet s)

/-- HEAD-LIMITS (R28). -/
def handleHeadLimits : Handler := withBody parseLimits fun q s =>
  match toIx 4 q.1 with
  | none => (.refuse .badValue, s)
  | some h =>
    if !q.2.inRange then (.refuse .badValue, s)
    else if !s.heads[h.val].atRest then (.refuse .wrongState, s)
    else (.ok [], s.modHead h fun d => { d with limits := q.2 })

/-- HEAD_LIMITS (R28). -/
def execHeadLimits (tag : Byte) (body : List Byte) (s : State) : Outcome := .next (arrive 0x17 tag body handleHeadLimits s)

/-! ### HEAD-READ (R29) -/

/-- Whether head `h` holds a conditioner (R128). -/
def State.holds (s : State) (h : HeadIx) : Bool := s.conds.toList.any fun c => c.head == some h

/-- The payload of HEAD-READ (R29). -/
def State.headPayload (s : State) (h : HeadIx) : List Byte :=
  let d := s.heads[h.val]
  p1 d.state.code ++ p1 (optCode (d.haltReason.map HaltReason.code)) ++ p1 d.standby.code ++ p1 d.steps.length
    ++ p2 ((d.step.map Step.label).getD Config.absentLabel) ++ p1 (bit d.current) ++ p1 (bit d.indexMark)
    ++ p1 d.snapshot.length ++ p4 (d.clock s.now) ++ p1 (optCode (d.dose.map (·.val)))
    ++ many (fun z => p2 z.command) d.zones.toList ++ many (fun z => p1 z.mode.code) d.zones.toList
    ++ many (fun z => s2 z.trim) d.zones.toList ++ p1 (bit d.marginActive) ++ p1 (bit d.marginLimited)
    ++ p1 (bit (s.holds h)) ++ p1 (optCode ((s.boundWatch h).map (·.val)))
    ++ many (fun z => p1 (bit z.drift)) d.zones.toList

/-- HEAD-READ (R29). -/
def handleHeadRead : Handler := withBody parseOne <| withIx 4 fun h s => (.ok (s.headPayload h), s)

/-- HEAD_READ (R29). -/
def execHeadRead (tag : Byte) (body : List Byte) (s : State) : Outcome := .next (arrive 0x18 tag body handleHeadRead s)

/-! ### Step timers -/

/-- The lead time of WETTING expires (R10). -/
def State.leadExpires (s : State) (h : HeadIx) : State :=
  let d := s.heads[h.val]
  match d.state, d.step with
  | .wetting, some t => (s.reach (d.entered + t.lead)).enterPressing h
  | _, _ => s

/-- LEAD_TIME_EXPIRY (R10). -/
def execLeadTimeExpiry (h : HeadIx) (s : State) : Outcome := .next (s.whenRunning (·.leadExpires h))

/-- The step clock reaches the time limit in PRESSING (R13). -/
def State.limitReached (s : State) (h : HeadIx) : State :=
  let d := s.heads[h.val]
  match d.state, d.step with
  | .pressing, some t =>
    let s' := s.reach (d.pressStart + t.timeLimit)
    if t.watch.isNone then s'.endAndSucceed h .time
    else if t.needEndpoint then s'.haltHead h .noEndpoint none none
    else s'.endAndSucceed h .timeLimit
  | _, _ => s

/-- STEP_TIME_LIMIT (R13). -/
def execStepTimeLimit (h : HeadIx) (s : State) : Outcome := .next (s.whenRunning (·.limitReached h))

/-- The overpolish time expires (R15). -/
def State.overpolishExpires (s : State) (h : HeadIx) : State :=
  let d := s.heads[h.val]
  match d.state, d.step with
  | .overpolish, some t => (s.reach (d.entered + t.overpolish)).endAndSucceed h .endpoint
  | _, _ => s

/-- OVERPOLISH_EXPIRY (R15). -/
def execOverpolishExpiry (h : HeadIx) (s : State) : Outcome := .next (s.whenRunning (·.overpolishExpires h))

/-- The starve limit expires (R20). -/
def State.starveExpires (s : State) (h : HeadIx) : State :=
  let d := s.heads[h.val]
  if d.state = .starved then (s.reach (d.entered + d.limits.starveLimit)).starveEnd h else s

/-- STARVE_LIMIT_EXPIRY (R20). -/
def execStarveLimitExpiry (h : HeadIx) (s : State) : Outcome := .next (s.whenRunning (·.starveExpires h))

/-- The release time expires (R21). -/
def State.releaseExpires (s : State) (h : HeadIx) : State :=
  let d := s.heads[h.val]
  if d.state = .releasing then (s.reach (d.entered + d.limits.releaseTime)).releaseEnd h else s

/-- RELEASE_TIME_EXPIRY (R21). -/
def execReleaseTimeExpiry (h : HeadIx) (s : State) : Outcome := .next (s.whenRunning (·.releaseExpires h))

end Sys2Proof.Machine
end

