-- ==== Sys2Proof/Machine/Lines.lean ====
section
/-! DEFINITION. The meanings of the requests to a line and of its prime timer (05_supply_lines_and_admission.md). -/

namespace Sys2Proof.Machine

/-! ### LINE-CONFIG and LINE-OPEN -/

/-- Whether some dose of line `l` that is QUEUED, OPENING, FLOWING or CLOSING is directed to a platen outside `members` (R83). -/
def State.strands (s : State) (l : LineIx) (members : Vector Bool 3) : Bool :=
  s.recs.toList.any fun d =>
    d.line == l && d.state.present && match d.platen with
      | none => false
      | some p => !members[p.val]

/-- LINE-CONFIG: the checks of R83 and the effects of R84. DEDUCED (log entry 29): the reservation in the reply is that at the
acceptance, before the admission attempt of R84. -/
def handleLineConfig : Handler := withBody parseLineConfig fun q s =>
  match toIx 4 q.line, q.config with
  | some l, some c =>
    let k := s.lines[l.val].reservation
    if c.capacity < k then (.refuse .inUse, s)
    else if s.strands l c.membership then (.refuse .inUse, s)
    else (.ok (p2 k), (s.modLine l fun n => { n with config := c, credits := c.weights, faultSince := none }).attempt l)
  | _, _ => (.refuse .badValue, s)

/-- LINE_CONFIG (R83). -/
def execLineConfig (tag : Byte) (body : List Byte) (s : State) : Outcome := .next (arrive 0x30 tag body handleLineConfig s)

/-- Puts a line in service by its state (R85). -/
def State.openLine (s : State) (l : LineIx) : State :=
  match s.lines[l.val].state with
  | .offline => (s.modLine l fun c => { c with state := .ready, credits := c.config.weights, volume := 0 }).attempt l
  | .faulted => (s.modLine l fun c => { c with state := .ready }).attempt l
  | _ => s

/-- LINE-OPEN; the payload is the state before the request (R85). -/
def handleLineOpen : Handler := withBody parseOne <| withIx 4 fun l s => (.ok (p1 s.lines[l.val].state.code), s.openLine l)

/-- LINE_OPEN (R85). -/
def execLineOpen (tag : Byte) (body : List Byte) (s : State) : Outcome := .next (arrive 0x31 tag body handleLineOpen s)

/-! ### LINE-TEARDOWN -/

/-- Removes one queued record of line `l` with TORN-DOWN: the pool completes it, a head record's loss is told, the tear-down count
rises (R100, item 2). -/
def State.removeTorn (l : LineIx) (r : RecIx) (s : State) : State :=
  (((s.unqueue r .tornDown).poolDone r).tellLoss r).modLine l fun c => { c with tornCount := c.tornCount + 1 }

/-- The work of an accepted LINE-TEARDOWN (R100). -/
def State.tearDown (s : State) (l : LineIx) : State :=
  let c := s.lines[l.val]
  let s1 := s.modLine l fun c =>
    { c with state := .teardown, before := c.state, primeDue := none, faultSince := none, tornCount := 0, tornVolume := 0 }
  let s2 := forEach c.queued (fun r s => s.removeTorn l r) s1
  let s3 := forEach c.admitted (fun r s => s.closeAndTell r .tornDown) s2
  s3.finishTeardown l

/-- LINE-TEARDOWN; the payload counts the removals and the closings (R100). -/
def handleLineTeardown : Handler := withBody parseOne <| withIx 4 fun l s =>
  let c := s.lines[l.val]
  if c.state = .offline ∨ c.state = .teardown then (.refuse .wrongState, s)
  else (.ok (p1 c.queued.length ++ p1 (c.admitted.countP fun r => s.recs[r.val].state.live)), s.tearDown l)

/-- LINE_TEARDOWN (R100). -/
def execLineTeardown (tag : Byte) (body : List Byte) (s : State) : Outcome :=
  .next (arrive 0x32 tag body handleLineTeardown s)

/-! ### LINE-PRIME -/

/-- Whether a LINE-PRIME is performed (R98). -/
def State.canPrime (s : State) (l : LineIx) : Bool :=
  s.lines[l.val].state == .ready && s.lines[l.val].admitted.isEmpty && !s.stop

/-- LINE-PRIME; the payload is the line's state after the request (R98). -/
def handleLinePrime : Handler := withBody parseOne <| withIx 4 fun l s =>
  if s.canPrime l then
    (.ok (p1 LineState.priming.code),
      s.modLine l fun c => { c with state := .priming, primeDue := some (s.now + c.config.primeTime) })
  else (.idle (p1 s.lines[l.val].state.code), s)

/-- LINE_PRIME (R98). -/
def execLinePrime (tag : Byte) (body : List Byte) (s : State) : Outcome := .next (arrive 0x33 tag body handleLinePrime s)

/-- The prime timer expires: the line is READY and makes an attempt (R99). -/
def State.primeExpires (s : State) (l : LineIx) : State :=
  match s.lines[l.val].state, s.lines[l.val].primeDue with
  | .priming, some t => ((s.reach t).endPriming l).attempt l
  | _, _ => s

/-- PRIME_TIMER_EXPIRY (R99). -/
def execPrimeTimerExpiry (l : LineIx) (s : State) : Outcome := .next (s.whenRunning (·.primeExpires l))

/-! ### LINE-READ -/

/-- The expected flow of a line: its pump rate while the flow check runs, else 0 (R102, R105). -/
def State.expectedFlow (s : State) (l : LineIx) : Nat := if s.checkRuns l then s.pumpRate l else 0

/-- Four values of a line in the order of classes 3 to 0. -/
def byClassDown {α : Type} (v : Vector α 4) : List α := [v[3], v[2], v[1], v[0]]

/-- The payload of LINE-READ (R105). The measured flow is the latest sample of the line's flow source, which an INPUT-CAL does not
rescale (R169). -/
def State.linePayload (s : State) (l : LineIx) : List Byte :=
  let c := s.lines[l.val]
  p1 c.state.code ++ p2 c.config.capacity ++ p1 c.config.scheme.code ++ many p1 (byClassDown c.config.weights)
    ++ setByte c.config.membership.toList ++ p2 c.config.primeTime ++ p1 c.config.tolerance ++ p2 c.config.faultTime
    ++ many p1 (byClassDown c.credits) ++ many (fun q : List RecIx => p1 q.length) (byClassDown c.queues)
    ++ p1 (c.queued.countP fun r => !s.eligible r) ++ p1 c.admitted.length ++ p2 c.reservation
    ++ p2 (c.config.capacity - c.reservation) ++ p1 (optCode (c.stoppedAt.map (·.val))) ++ p2 (s.pumpRate l)
    ++ p2 (s.expectedFlow l) ++ s4 s.hub.flows[l.val]
    ++ p2 ((c.faultSince.map fun t => s.now - t).getD 0) ++ p2 ((c.primeDue.map fun t => t - s.now).getD 0)
    ++ p4 (holdAt max32 (c.volume / 6000))

/-- LINE-READ (R105). -/
def handleLineRead : Handler := withBody parseOne <| withIx 4 fun l s => (.ok (s.linePayload l), s)

/-- LINE_READ (R105). -/
def execLineRead (tag : Byte) (body : List Byte) (s : State) : Outcome := .next (arrive 0x34 tag body handleLineRead s)

end Sys2Proof.Machine
end

