-- ==== Sys2Proof/Machine/Link.lean ====
section
/-! DEFINITION. The meanings of IDENTIFY, STATUS and the end of a transmitted frame (10_the_message_link.md). -/

namespace Sys2Proof.Machine

/-- The payload of IDENTIFY: P, M, -, 4, 3, the revision and the layout version (R190). -/
def identity : List Byte := [0x50, 0x4D, 0x2D, 0x34, 0x33, b1 Config.revision, b1 Config.layoutVersion]

/-- IDENTIFY (R190). -/
def handleIdentify : Handler := withBody parseEmpty fun _ s => (.ok identity, s)

/-- IDENTIFY (R190). -/
def execIdentify (tag : Byte) (body : List Byte) (s : State) : Outcome := .next (arrive 0x01 tag body handleIdentify s)

/-- The payload of STATUS, 23 bytes (R191). -/
def State.statusPayload (s : State) : List Byte :=
  p1 (bit s.stop) ++ p1 s.car.state.code ++ p1 s.car.position.val ++ many (fun d => p1 d.state.code) s.heads.toList
    ++ many (fun c => p1 c.state.code) s.lines.toList ++ many (fun c => p1 c.mode.code) s.platens.toList ++ p1 s.free.length
    ++ p1 s.store.outcome.code ++ p1 (bit (s.store.save != .none)) ++ many (fun m => p2 m.code) s.hub.monitors.toList
    ++ p1 s.link.notices.length ++ p1 (bit s.link.loss)

/-- STATUS (R191). -/
def handleStatus : Handler := withBody parseEmpty fun _ s => (.ok s.statusPayload, s)

/-- STATUS (R191). -/
def execStatus (tag : Byte) (body : List Byte) (s : State) : Outcome := .next (arrive 0x02 tag body handleStatus s)

/-- Whether a frame is the reply of an accepted RESTART. -/
def Frame.acceptsRestart (f : Frame) : Bool := f.kind == 0x83 && f.body.head? == some 0

/-- Whether an accepted restart takes place: its reply has been sent, and no save is short of its signature (R198). -/
def State.restartDue (s : State) : Bool :=
  s.restart == .replySent && match s.store.save with
    | .writing _ => false
    | _ => true

/-- The transmitter finishes a frame and chooses the next by rank (R189). At the end of the reply an accepted RESTART waits for, it goes
on only while a running save keeps the restart waiting (R192); otherwise this is the moment of the restart (R198), and it begins
nothing. DEDUCED (log entry 34): R189 and R198 place its choice and the restart at one moment, and the restart is taken first. -/
def State.frameEnds (s : State) : State :=
  match s.link.tx with
  | none => s
  | some f =>
    if s.restart = .replyWaiting ∧ f.acceptsRestart = true then
      let s' := { s with restart := .replySent }
      s'.modLink (if s'.restartDue then Link.stand else Link.choose)
    else s.modLink Link.choose

/-- FRAME_SENT (R189). -/
def execFrameSent (s : State) : Outcome := .next (s.whenRunning State.frameEnds)

end Sys2Proof.Machine
end

