-- ==== Sys2Proof/Machine/Settings.lean ====
section
/-! DEFINITION. The meanings of SETTINGS-SAVE and RESTART, of the end of a save, of power, start-up and restart, and of the STOP input
(11_stored_settings_start_up_and_the_stop_input.md). -/

namespace Sys2Proof.Machine

/-! ### Saves (R195, R196) -/

/-- SETTINGS-SAVE: the working copy of the configuration takes the live values, and the save begins (R193, R196). -/
def handleSettingsSave : Handler := withBody parseEmpty fun _ s =>
  if s.busy then (.refuse .busy, s)
  else (.ok [], (s.modStore fun u => { u with workConfig := s.liveConfig }).beginSave .settingsSave)

/-- SETTINGS_SAVE (R196). -/
def execSettingsSave (tag : Byte) (body : List Byte) (s : State) : Outcome :=
  .next (arrive 0x04 tag body handleSettingsSave s)

/-- The write of a save ends: the image is written with its signature, and SAVE-END is posted; where only this save kept an accepted
RESTART waiting, the save ends at its signature (R195, R198). -/
def State.writeEnds (s : State) : State :=
  match s.store.save with
  | .writing job =>
    let s1 := (s.reach (job.since + Config.writeTime)).modStore fun u => { u with image := job.image }
    if s.restart = .replySent then s1.modStore fun u => { u with save := .signed }
    else (s1.modStore fun u => { u with save := .none }).post (.saveEnd job.cause)
  | _ => s

/-- SAVE_WRITE_END (R195). -/
def execSaveWriteEnd (s : State) : Outcome := .next (s.whenRunning State.writeEnds)

/-! ### RESTART (R198) -/

/-- The three conditions of a RESTART (R198). -/
def State.quiet (s : State) : Bool :=
  s.heads.toList.all (fun d => d.state == .idle || d.state == .halted) && s.recs.toList.all (fun d => !d.state.admitted)
    && (s.car.state == .idle || s.car.state == .fault)

/-- RESTART (R198). -/
def handleRestart : Handler := withBody parseEmpty fun _ s =>
  if s.quiet then (.ok [], { s with restart := .replyWaiting }) else (.refuse .wrongState, s)

/-- RESTART (R198). -/
def execRestart (tag : Byte) (body : List Byte) (s : State) : Outcome := .next (arrive 0x03 tag body handleRestart s)

/-- RESTART_TAKES_PLACE (R198). -/
def execRestartTakesPlace (s : State) : Outcome :=
  .next (s.whenRunning fun s => if s.restartDue then s.beginStartup .restart else s)

/-! ### Power (R195, R197) -/

/-- POWER_ON: start-up begins with cause POWER-ON (R197). -/
def execPowerOn (s : State) : Outcome := .next (s.beginStartup .powerOn)

/-- POWER_LOSS: everything stops; the image stays as the save has left it (R195). -/
def execPowerLoss (s : State) : Outcome := .next { s.beginStartup .powerOn with power := .off }

/-! ### STOP (R199) -/

/-- One party takes an assertion of STOP under its own rule: the notice (R199), a head (R30), the pool (R81), a line (R107), a
conditioner (R150), the interlock (R165). -/
def State.takeStop (s : State) : StopTaker → State
  | .notice => s.post (.stopChange true)
  | .head h => s.haltHead h .stop none none
  | .pool => forEach (List.finRange 64) (fun r s => s.closeAndTell r .stopped) s
  | .line l => if s.lines[l.val].state = .priming then s.endPriming l else s
  | .conditioner p => s.modCond p fun c => c.emptied s.now .stopped
  | .interlock =>
    match s.car.state with
    | .pending | .lifting => s.abandonIndex .abandonedStop
    | .moving => s.indexFault .stop
    | _ => s

/-- The blocks that own STOP behaviour, in a fixed order. -/
def stopBlocks : List StopTaker :=
  allHeads.map StopTaker.head ++ [.pool] ++ allLines.map StopTaker.line ++ allPlatens.map StopTaker.conditioner ++ [.interlock]

/-- An assertion of STOP, taken by the notice and every block, in the order the command gives (R199). -/
def State.assertStop (s : State) (order : List StopTaker) : State :=
  if s.stop then s
  else
    let s' := { s with stop := true }
    if s.running then forEach (completeOrder order (.notice :: stopBlocks)) (fun x s => s.takeStop x) s' else s'

/-- STOP_ASSERT (R199). -/
def execStopAssert (order : List StopTaker) (s : State) : Outcome := .next (s.assertStop order)

/-- A release of STOP: STOP-CHANGE, and an attempt of each line, L0 first (R107, R199). -/
def State.releaseStop (s : State) : State :=
  if s.stop then
    let s' := { s with stop := false }
    if s.running then forEach allLines (fun l s => s.attempt l) (s'.post (.stopChange false)) else s'
  else s

/-- STOP_RELEASE (R199). -/
def execStopRelease (s : State) : Outcome := .next s.releaseStop

/-! ### The end of start-up (R197) -/

/-- Whether the image is loaded: a valid signature and layout version 2 (R194). -/
def Image.loads (i : Image) : Bool := i.signed && i.version == Config.layoutVersion

/-- Every block with its stored items, or all on their defaults (R194). -/
def State.loadImage (s : State) : State :=
  let i := s.store.image
  let c := if i.loads then i.config else ConfigRows.default
  let m := if i.loads then i.committed else Vector.replicate 3 Committed.default
  { s.powerOnBlocks c m with store := ⟨i, c, m, .none, if i.loads then .loaded else .defaulted⟩ }

/-- The interlock reads IN-POSITION and POS (R164). -/
def Carousel.readPosition (c : Carousel) (inPosition : Bool) (pos : Station) : Carousel :=
  if inPosition then { c with state := .idle, position := pos, outcome := .positioned }
  else { c with state := .fault, position := 0, outcome := .unpositioned }

/-- Every zone's first auto-zero window begins at the present moment (R44). -/
def State.beginWindows (s : State) : State :=
  forEach allHeads
    (fun h s => s.modHead h fun d => d.mapZones fun z c => { c with window := some ⟨s.now, s.processed h z⟩ }) s

/-- The image read ends (R197, items 2 to 4): the blocks take their items, the interlock reads its position, STARTED is posted, the
part runs, and an asserted STOP is taken by every block in the order the command gives, without a STOP-CHANGE. -/
def State.readEnds (s : State) (order : List StopTaker) : State :=
  match s.power with
  | .starting cause since =>
    let s1 := (s.reach (since + Config.readTime)).loadImage.modCar fun c => c.readPosition s.inPosition s.pos
    let s2 := ({ s1 with power := .running }.modHub fun u => { u with startedAt := s1.now }).beginWindows
    let s3 := s2.post (.started cause s2.store.outcome s2.car.outcome s2.car.position s2.stop)
    if s3.stop then forEach ((completeOrder order stopBlocks).filter fun x => x != .notice) (fun x s => s.takeStop x) s3 else s3
  | _ => s

/-- STARTUP_READ_END (R197). -/
def execStartupReadEnd (order : List StopTaker) (s : State) : Outcome := .next (s.readEnds order)

end Sys2Proof.Machine
end

