-- ==== Sys2Proof/Machine/Signals.lean ====
section
/-! DEFINITION. The meanings of the requests to the Signal Hub, of a source's sample and of the trace timer
(09_signals_input_calibration_and_monitor_outputs.md). -/

namespace Sys2Proof.Machine

/-! ### INPUT-CAL (R167, R169) -/

/-- The zone whose transducer a channel is, if it is one (R166). -/
def zoneOfChannel (c : ChanIx) : Option (HeadIx × ZoneIx) :=
  if h : c.val < 20 then some (⟨c.val / 5, by omega⟩, ⟨c.val % 5, by omega⟩) else none

/-- Clears the offset and the flag of a zone; a running window is kept (R46). -/
def Zone.clearOffset (z : Zone) : Zone := { z with offset := 0, drift := false }

/-- The bytes of an input calibration. -/
def InputCal.bytes (c : InputCal) : List Byte := p2 c.rawLo ++ s4 c.vLo ++ p2 c.rawHi ++ s4 c.vHi

/-- The effects of an accepted INPUT-CAL: the calibration, the latest value rescaled, a zone's offset and flag cleared (R169). -/
def State.calibrate (s : State) (c : ChanIx) (cal : InputCal) : State :=
  let s' := s.modHub fun u =>
    { u with channels := u.channels.set c.val { u.channels[c.val] with cal := cal, scaled := cal.scale u.channels[c.val].raw } }
  match zoneOfChannel c with
  | none => s'
  | some (h, z) => s'.modHead h fun d => d.modZone z Zone.clearOffset

/-- INPUT-CAL; the payload is the two points replaced (R167). -/
def handleInputCal : Handler := withBody parseInputCal fun q s =>
  match toIx 33 q.1 with
  | none => (.refuse .badValue, s)
  | some c =>
    if q.2.rawHi ≤ q.2.rawLo then (.refuse .badValue, s)
    else (.ok s.hub.channels[c.val].cal.bytes, s.calibrate c q.2)

/-- INPUT_CAL (R167). -/
def execInputCal (tag : Byte) (body : List Byte) (s : State) : Outcome := .next (arrive 0x50 tag body handleInputCal s)

/-! ### SOURCE-READ (R172) -/

/-- The channel, latest raw code and latest scaled value of a source in SOURCE-READ: 255, 0, 0 for one without a channel (R172). -/
def State.channelBytes (s : State) (src : Source) : List Byte :=
  match Source.channel src with
  | none => p1 255 ++ p2 0 ++ s4 0
  | some c => p1 c.val ++ p2 s.hub.channels[c.val].raw ++ s4 s.hub.channels[c.val].scaled

/-- The offset in SOURCE-READ: the present auto-zero offset of a zone pressure source, else 0 (R172). -/
def State.sourceOffset (s : State) : Source → Int
  | .pressure h z => s.heads[h.val].zones[z.val].offset
  | _ => 0

/-- The ms since a source's last sample. -/
def State.sinceSample (s : State) (src : Source) : Nat :=
  s.now - (s.hub.sampled[(Source.place src).val]).getD s.hub.startedAt

/-- The payload of SOURCE-READ (R172). -/
def State.sourcePayload (s : State) (src : Source) : List Byte :=
  p1 (Source.id src) ++ s4 (s.sourceValue src) ++ s.channelBytes src ++ s2 (s.sourceOffset src) ++ p1 (s.sinceSample src)

/-- SOURCE-READ (R172). -/
def handleSourceRead : Handler := withBody parseOne fun n s =>
  match sourceOf n with
  | none => (.refuse .badValue, s)
  | some src => (.ok (s.sourcePayload src), s)

/-- SOURCE_READ (R172). -/
def execSourceRead (tag : Byte) (body : List Byte) (s : State) : Outcome := .next (arrive 0x51 tag body handleSourceRead s)

/-! ### MONITOR-ROUTE (R174) -/

/-- The bytes of a route. -/
def Route.bytes (r : Route) : List Byte := p1 (Source.id r.source) ++ s4 r.zero ++ s4 r.full

/-- MONITOR-ROUTE: the route is replaced and the output takes the code of the new source's present value; the payload is the route
replaced and the new code (R174). -/
def handleMonitorRoute : Handler := withBody parseRoute fun q s =>
  match toIx 2 q.1, sourceOf q.2.1 with
  | some o, some src =>
    if q.2.2.1 = q.2.2.2 then (.refuse .badValue, s)
    else
      let r : Route := ⟨src, q.2.2.1, q.2.2.2⟩
      let code := r.codeOf (s.sourceValue src)
      (.ok (s.hub.monitors[o.val].route.bytes ++ p2 code),
        s.modHub fun u => { u with monitors := u.monitors.set o.val ⟨r, code⟩ })
  | _, _ => (.refuse .badValue, s)

/-- MONITOR_ROUTE (R174). -/
def execMonitorRoute (tag : Byte) (body : List Byte) (s : State) : Outcome :=
  .next (arrive 0x52 tag body handleMonitorRoute s)

/-! ### TRACE-SET (R175) -/

/-- The trace setting a TRACE-SET asks for at `now`, `none` where one of its checks fails; gate OFF checks item 1 alone and stops the
timer (R175). -/
def TraceBody.setting (q : TraceBody) (old : Trace) (now : Nat) : Option Trace :=
  match gateOf q.gate, toIx 4 q.head with
  | some g, some h =>
    if 4 < q.count ∨ ¬ q.sources.all (fun n => (sourceOf n).isSome) then none
    else
      let srcs := q.sources.filterMap sourceOf
      if g = .off then some { old with gate := g, head := h, sources := srcs, interval := q.interval, due := none }
      else if q.interval < 10 ∨ 10000 < q.interval ∨ q.interval % 10 ≠ 0 ∨ q.count = 0 then none
      else some ⟨g, h, srcs, q.interval, now, some (now + q.interval), 0⟩
  | _, _ => none

/-- TRACE-SET; the payload is the gate before and the number of records formed under it (R175, log entry 8). DESIGN CHOICE (log entry
33): the number is the record counter of R176, which wraps from 65535 to 0. -/
def handleTraceSet : Handler := withBody parseTrace fun q s =>
  match q.setting s.hub.trace s.now with
  | none => (.refuse .badValue, s)
  | some t =>
    let old := s.hub.trace
    (.ok (p1 old.gate.code ++ p2 (if old.gate = .off then 0 else old.counter)), s.modHub fun u => { u with trace := t })

/-- TRACE_SET (R175). -/
def execTraceSet (tag : Byte) (body : List Byte) (s : State) : Outcome := .next (arrive 0x53 tag body handleTraceSet s)

/-! ### Events -/

/-- SOURCE_SAMPLE (R171). -/
def execSourceSample (src : Source) (raw : BitVec 16) (order : List SampleUser) (s : State) : Outcome :=
  .next (s.whenRunning (·.sample src raw.toNat order))

/-- Whether the trace gate is open (R176). -/
def State.gateOpen (s : State) : Bool :=
  match s.hub.trace.gate with
  | .off => false
  | .always => true
  | .whilePressing => s.heads[s.hub.trace.head.val].state.isPressing

/-- The record a trace expiry forms, with the counter `n` after its rise (R176). -/
def State.traceRecord (s : State) (n : Nat) : TraceRecord where
  sequence := n
  time := (s.now - s.hub.trace.setAt) % 4294967296
  gate := s.hub.trace.gate
  head := s.hub.trace.head
  overwritten :=
    match s.link.slot with
    | none => 0
    | some t => holdAt 255 (t.overwritten + 1)
  values := s.hub.trace.sources.map s.sourceValue

/-- The trace timer expires: with the gate open a record is formed and placed; the timer restarts (R176). -/
def State.traceExpires (s : State) : State :=
  match s.hub.trace.gate, s.hub.trace.due with
  | .off, _ => s
  | _, none => s
  | _, some t =>
    let s1 := (s.reach t).modHub fun u => { u with trace := { u.trace with due := some (t + u.trace.interval) } }
    if s1.gateOpen then
      let n := (s1.hub.trace.counter + 1) % 65536
      (s1.modHub fun u => { u with trace := { u.trace with counter := n } }).modLink fun k => k.placeTrace (s1.traceRecord n)
    else s1

/-- TRACE_TIMER_EXPIRY (R176). -/
def execTraceTimerExpiry (s : State) : Outcome := .next (s.whenRunning State.traceExpires)

end Sys2Proof.Machine
end

