-- ==== Sys2Proof/Machine/Watches.lean ====
section
/-! DEFINITION. The meanings of the requests to the Watch Unit and of the blank time (06_watches_and_endpoint_detection.md). -/

namespace Sys2Proof.Machine

/-- WATCH-DEFINE: the definition is replaced whole, the watch is DISARMED, its firings count is 0; the payload is the state before
(R110). -/
def handleWatchDefine : Handler := withBody parseWatch fun q s =>
  match toIx 16 q.watch, q.defn with
  | some w, some d =>
    let k := s.watches[w.val]
    if k.bound.isSome then (.refuse .wrongState, s)
    else (.ok (p1 k.state.code), s.modWatch w fun k => { k.disarm with defn := d, firings := 0 })
  | _, _ => (.refuse .badValue, s)

/-- WATCH_DEFINE (R110). -/
def execWatchDefine (tag : Byte) (body : List Byte) (s : State) : Outcome := .next (arrive 0x48 tag body handleWatchDefine s)

/-- Whether WATCH-ARM is accepted: an unbound watch in DISARMED or FIRED (R111). -/
def Watch.armable (k : Watch) : Bool := k.bound.isNone && (k.state == .disarmed || k.state == .fired)

/-- WATCH-ARM (R111). -/
def handleWatchArm : Handler := withBody parseOne <| withIx 16 fun w s =>
  if s.watches[w.val].armable then (.ok [], s.modWatch w fun k => k.arm s.now) else (.refuse .wrongState, s)

/-- WATCH_ARM (R111). -/
def execWatchArm (tag : Byte) (body : List Byte) (s : State) : Outcome := .next (arrive 0x49 tag body handleWatchArm s)

/-- WATCH-DISARM; the payload is the state before the request (R112). -/
def handleWatchDisarm : Handler := withBody parseOne <| withIx 16 fun w s =>
  let k := s.watches[w.val]
  if k.state = .undefined ∨ k.bound.isSome = true then (.refuse .wrongState, s)
  else (.ok (p1 k.state.code), s.modWatch w Watch.disarm)

/-- WATCH_DISARM (R112). -/
def execWatchDisarm (tag : Byte) (body : List Byte) (s : State) : Outcome :=
  .next (arrive 0x4A tag body handleWatchDisarm s)

/-- WATCH-EXCHANGE: the threshold alone is replaced; the payload is the one it replaced (R123). -/
def handleWatchExchange : Handler := withBody parseExchange fun q s =>
  match toIx 16 q.1 with
  | none => (.refuse .badValue, s)
  | some w =>
    let k := s.watches[w.val]
    if k.state = .undefined then (.refuse .wrongState, s)
    else (.ok (s4 k.defn.threshold), s.modWatch w fun k => { k with defn := { k.defn with threshold := q.2 } })

/-- WATCH_EXCHANGE (R123). -/
def execWatchExchange (tag : Byte) (body : List Byte) (s : State) : Outcome :=
  .next (arrive 0x4B tag body handleWatchExchange s)

/-- The three bytes of a latch destination (10.4). -/
def LatchDest.bytes : LatchDest → List Byte
  | .latch i z => p1 0 ++ p1 i.val ++ [z]
  | .trim h z => p1 1 ++ p1 h.val ++ p1 z.val

/-- The bytes of a definition, in the order of R108. -/
def WatchDef.bytes (d : WatchDef) : List Byte :=
  p1 (Source.id d.source) ++ p1 d.relation.code ++ s4 d.threshold ++ p1 d.count ++ p4 d.window ++ p2 d.blank ++ p2 d.hold
    ++ p1 d.action.code ++ p1 d.target.val ++ d.dest.bytes ++ p1 (Source.id d.copy) ++ p1 (bit d.repeats)

/-- The ms a watch has held in HOLDING, 0 otherwise (R124). -/
def Watch.held (k : Watch) (now : Nat) : Nat := if k.state = .holding then now - k.holdStart.getD now else 0

/-- The ms of blank time left in BLANKING, 0 otherwise (R124). -/
def Watch.blankLeft (k : Watch) (now : Nat) : Nat := if k.state = .blanking then k.blankStart + k.defn.blank - now else 0

/-- The payload of WATCH-READ (R124). -/
def Watch.payload (k : Watch) (now : Nat) : List Byte :=
  p1 k.state.code ++ k.defn.bytes ++ p1 (optCode (k.bound.map (·.val))) ++ p1 k.history.length
    ++ s4 (if k.history = [] then 0 else k.prevAvg.getD 0) ++ s4 (k.history.getLast?.getD 0) ++ p1 (bit k.crossed)
    ++ p2 (k.held now) ++ p2 (k.blankLeft now) ++ p2 k.firings

/-- WATCH-READ (R124). -/
def handleWatchRead : Handler := withBody parseOne <| withIx 16 fun w s => (.ok (s.watches[w.val].payload s.now), s)

/-- WATCH_READ (R124). -/
def execWatchRead (tag : Byte) (body : List Byte) (s : State) : Outcome := .next (arrive 0x4C tag body handleWatchRead s)

/-- The bytes of a latch: its value and its last writer (R125). -/
def Latch.bytes (k : Latch) : List Byte := s4 k.value ++ p1 (optCode (k.writer.map (·.val)))

/-- LATCH-READ (R125). -/
def handleLatchRead : Handler := withBody parseEmpty fun _ s => (.ok (many Latch.bytes s.latches.toList), s)

/-- LATCH_READ (R125). -/
def execLatchRead (tag : Byte) (body : List Byte) (s : State) : Outcome := .next (arrive 0x4D tag body handleLatchRead s)

/-- The blank time of a watch expires: it is WATCHING (R111). -/
def State.blankExpires (s : State) (w : WatchIx) : State :=
  let k := s.watches[w.val]
  if k.state = .blanking then (s.reach (k.blankStart + k.defn.blank)).modWatch w fun k => { k with state := .watching } else s

/-- BLANK_TIME_EXPIRY (R111). -/
def execBlankTimeExpiry (w : WatchIx) (s : State) : Outcome := .next (s.whenRunning (·.blankExpires w))

end Sys2Proof.Machine
end

