-- ==== Sys2Proof/Machine/Zones.lean ====
section
/-! DEFINITION. The meanings of ZONE-CAL and of the timers of a head's zones (02_zone_pressure_arithmetic_and_transducer_zeroing.md). -/

namespace Sys2Proof.Machine

/-- ZONE-CAL: the two points replace the zone's calibration; the payload carries the points replaced (R41). -/
def handleZoneCal : Handler := withBody parseZoneCal fun q s =>
  match toIx 4 q.head, toIx 5 q.zone with
  | some h, some z =>
    if !q.cal.valid then (.refuse .badValue, s)
    else
      let c := s.heads[h.val].zones[z.val].cal
      (.ok (p2 c.pLo ++ p2 c.cLo ++ p2 c.pHi ++ p2 c.cHi), s.modHead h fun d => d.modZone z fun c => { c with cal := q.cal })
  | _, _ => (.refuse .badValue, s)

/-- ZONE_CAL (R41). -/
def execZoneCal (tag : Byte) (body : List Byte) (s : State) : Outcome := .next (arrive 0x19 tag body handleZoneCal s)

/-- The update timer of a head expires: one computation, and the timer is set 10 ms on (R33). -/
def State.updateExpires (s : State) (h : HeadIx) : State :=
  match s.heads[h.val].updateDue with
  | none => s
  | some t =>
    let s' := s.reach t
    s'.modHead h fun d => { d.compute s'.now with updateDue := some (t + Config.updatePeriod) }

/-- HEAD_UPDATE_TIMER (R33). -/
def execHeadUpdateTimer (h : HeadIx) (s : State) : Outcome := .next (s.whenRunning (·.updateExpires h))

/-- The ramp of a pressing head ends: its settle period begins (R43). -/
def State.rampEnds (s : State) (h : HeadIx) : State :=
  let d := s.heads[h.val]
  match d.supervision, d.step with
  | .ramping, some t =>
    let s' := s.reach (d.pressStart + t.rampTime)
    s'.modHead h fun d => d.startSettle s'.now
  | _, _ => s

/-- RAMP_END (R34, R43). -/
def execRampEnd (h : HeadIx) (s : State) : Outcome := .next (s.whenRunning (·.rampEnds h))

/-- The settle time expires: testing begins with the next sample (R43). -/
def State.settleExpires (s : State) (h : HeadIx) : State :=
  let d := s.heads[h.val]
  match d.supervision with
  | .settling since => (s.reach (since + d.limits.settleTime)).modHead h fun d => { d with supervision := .testing }
  | _ => s

/-- SETTLE_TIME_EXPIRY (R43). -/
def execSettleTimeExpiry (h : HeadIx) (s : State) : Outcome := .next (s.whenRunning (·.settleExpires h))

/-- The auto-zero window of a zone ends: it is evaluated, and the next begins on the reading the new offset gives (R44, R45). -/
def State.windowEnds (s : State) (h : HeadIx) (z : ZoneIx) : State :=
  match s.heads[h.val].zones[z.val].window with
  | none => s
  | some w =>
    let s' := s.reach (w.start + Config.windowTime)
    let raw := s'.hub.channels[(zoneChannel h z).val].scaled
    s'.modHead h fun d => d.modZone z fun c =>
      c.endWindow d.limits w s'.now (s'.processed h z) fun c => clamp32 (raw - c.offset)

/-- AUTO_ZERO_WINDOW_END (R44, R45). -/
def execAutoZeroWindowEnd (h : HeadIx) (z : ZoneIx) (s : State) : Outcome := .next (s.whenRunning (·.windowEnds h z))

end Sys2Proof.Machine
end

