-- ==== Sys2Proof/Machine/Receive.lean ====
section
/-! DEFINITION. Dispatch by KIND (R182) and the receiver (R180, R181): the meanings of the rows that are bytes or gaps on the link. -/

namespace Sys2Proof.Machine

/-- The block that owns a request KIND, by the table of 10.4; `none` for a KIND that is no request kind. -/
def handlerOf (kind : Byte) : Option Handler :=
  match kind.toNat with
  | 0x01 => some handleIdentify | 0x02 => some handleStatus | 0x03 => some handleRestart | 0x04 => some handleSettingsSave
  | 0x10 => some handleStepLoad | 0x11 => some handleHeadStart | 0x12 => some handleHeadHalt | 0x13 => some handleHeadResume
  | 0x14 => some handleHeadFlush | 0x15 => some handleHeadStandby | 0x16 => some handleTrimSet | 0x17 => some handleHeadLimits
  | 0x18 => some handleHeadRead | 0x19 => some handleZoneCal
  | 0x20 => some handlePlatenMode | 0x21 => some handlePlatenConfig | 0x22 => some handlePlatenRead
  | 0x28 => some handleDoseSubmit | 0x29 => some handleDoseCancel | 0x2A => some handleDoseRead | 0x2B => some handleDoseRelease
  | 0x30 => some handleLineConfig | 0x31 => some handleLineOpen | 0x32 => some handleLineTeardown
  | 0x33 => some handleLinePrime | 0x34 => some handleLineRead
  | 0x38 => some handleCondProfile | 0x39 => some handleCondRun | 0x3A => some handleCondStop | 0x3B => some handlePadChange
  | 0x3C => some handleWearSet | 0x3D => some handleWearRead | 0x3E => some handleWearCommit | 0x3F => some handleWearDiscard
  | 0x40 => some handleWearRetire
  | 0x48 => some handleWatchDefine | 0x49 => some handleWatchArm | 0x4A => some handleWatchDisarm
  | 0x4B => some handleWatchExchange | 0x4C => some handleWatchRead | 0x4D => some handleLatchRead
  | 0x50 => some handleInputCal | 0x51 => some handleSourceRead | 0x52 => some handleMonitorRoute | 0x53 => some handleTraceSet
  | 0x58 => some handleIndexRequest | 0x59 => some handleIndexCancel | 0x5A => some handleIndexResync
  | 0x5B => some handleCarouselRead
  | _ => none

/-- The answer to a KIND that is no request kind (R182, test 1). -/
def handleUnknown : Handler := fun _ s => (.refuse .unknownKind, s)

/-- Dispatch of a good frame (R182). -/
def State.dispatch (s : State) (kind tag : Byte) (body : List Byte) : State :=
  arrive kind tag body ((handlerOf kind).getD handleUnknown) s

/-- UNKNOWN_KIND (R182): the arrival of a good frame whose KIND is no request kind. -/
def execUnknownKind (kind tag : Byte) (body : List Byte) (s : State) : Outcome := .next (s.dispatch kind tag body)

/-! ### The receiver -/

/-- The bytes a receiver holds: the sync byte taken and those since. -/
def Receiver.bytes : Receiver → List RxByte
  | .hunting => []
  | .collecting sync since => sync :: since

/-- Hunts and collects over bytes, oldest first (R180): a good frame is dispatched while the receiver is open; any other complete
frame, and any frame while it is closed, is discarded, and the receiver goes on from the byte after its sync byte. Every turn takes
at least one byte, so as many turns as bytes are enough. -/
def State.scan (expired : Bool) : Nat → List RxByte → State → State
  | 0, _, s => s.modLink fun k => { k with rx := .hunting }
  | fuel + 1, bytes, s =>
    match nextSync bytes with
    | none => s.modLink fun k => { k with rx := .hunting }
    | some (sync, rest) =>
      match readFrame expired s.now sync rest with
      | .incomplete => s.modLink fun k => { k with rx := .collecting sync rest }
      | .bad => State.scan expired fuel rest s
      | .good kind tag body after =>
        if s.isOpen then State.scan expired fuel after (s.dispatch kind tag body) else State.scan expired fuel rest s

/-- The receiver looks again at the bytes it holds. -/
def State.rescan (s : State) (expired : Bool) : State :=
  State.scan expired s.link.rx.bytes.length s.link.rx.bytes s

/-- A byte arrives. A frame whose gap has by now exceeded 20 ms is discarded first; then the byte joins those the receiver holds. -/
def State.takeByte (s : State) (b : Byte) : State :=
  let s1 := s.rescan false
  let held := s1.link.rx.bytes ++ [⟨b, s1.now⟩]
  State.scan false held.length held s1

/-- BYTE_ARRIVAL (R180). -/
def execByteArrival (b : Byte) (s : State) : Outcome := .next (if s.power = .off then s else s.takeByte b)

/-- FRAME_DISCARD (R180): the arrival of the byte that makes LEN or CHECK bad, or that completes a frame while the receiver is closed;
the frame is discarded and the receiver rescans. -/
def execFrameDiscard (b : Byte) (s : State) : Outcome := .next (if s.power = .off then s else s.takeByte b)

/-- The gap since the last byte of a frame exceeds 20 ms: the frame is discarded, and the receiver rescans (R180). -/
def State.gapExpires (s : State) : State :=
  match s.link.rx with
  | .hunting => s
  | .collecting sync since => (s.reach (lastTime sync.time since + Config.maxGap)).rescan true

/-- RECEIVE_GAP_TIMEOUT (R180). -/
def execReceiveGapTimeout (s : State) : Outcome := .next s.gapExpires

end Sys2Proof.Machine
end

