-- ==== Sys2Proof/Machine/Dispatch.lean ====
section
/-! DEFINITION. What each command does: one arm per command, each a call of its meaning. -/

namespace Sys2Proof.Machine

def exec (i : Instr) (s : State) : Host.Outcome State Fault Refusal :=
  match i with
  | .identify tag body => Sys2Proof.Machine.execIdentify tag body s
  | .status tag body => Sys2Proof.Machine.execStatus tag body s
  | .restart tag body => Sys2Proof.Machine.execRestart tag body s
  | .settingsSave tag body => Sys2Proof.Machine.execSettingsSave tag body s
  | .stepLoad tag body => Sys2Proof.Machine.execStepLoad tag body s
  | .headStart tag body => Sys2Proof.Machine.execHeadStart tag body s
  | .headHalt tag body => Sys2Proof.Machine.execHeadHalt tag body s
  | .headResume tag body => Sys2Proof.Machine.execHeadResume tag body s
  | .headFlush tag body => Sys2Proof.Machine.execHeadFlush tag body s
  | .headStandby tag body => Sys2Proof.Machine.execHeadStandby tag body s
  | .trimSet tag body => Sys2Proof.Machine.execTrimSet tag body s
  | .headLimits tag body => Sys2Proof.Machine.execHeadLimits tag body s
  | .headRead tag body => Sys2Proof.Machine.execHeadRead tag body s
  | .zoneCal tag body => Sys2Proof.Machine.execZoneCal tag body s
  | .platenMode tag body => Sys2Proof.Machine.execPlatenMode tag body s
  | .platenConfig tag body => Sys2Proof.Machine.execPlatenConfig tag body s
  | .platenRead tag body => Sys2Proof.Machine.execPlatenRead tag body s
  | .doseSubmit tag body => Sys2Proof.Machine.execDoseSubmit tag body s
  | .doseCancel tag body => Sys2Proof.Machine.execDoseCancel tag body s
  | .doseRead tag body => Sys2Proof.Machine.execDoseRead tag body s
  | .doseRelease tag body => Sys2Proof.Machine.execDoseRelease tag body s
  | .lineConfig tag body => Sys2Proof.Machine.execLineConfig tag body s
  | .lineOpen tag body => Sys2Proof.Machine.execLineOpen tag body s
  | .lineTeardown tag body => Sys2Proof.Machine.execLineTeardown tag body s
  | .linePrime tag body => Sys2Proof.Machine.execLinePrime tag body s
  | .lineRead tag body => Sys2Proof.Machine.execLineRead tag body s
  | .condProfile tag body => Sys2Proof.Machine.execCondProfile tag body s
  | .condRun tag body => Sys2Proof.Machine.execCondRun tag body s
  | .condStop tag body => Sys2Proof.Machine.execCondStop tag body s
  | .padChange tag body => Sys2Proof.Machine.execPadChange tag body s
  | .wearSet tag body => Sys2Proof.Machine.execWearSet tag body s
  | .wearRead tag body => Sys2Proof.Machine.execWearRead tag body s
  | .wearCommit tag body => Sys2Proof.Machine.execWearCommit tag body s
  | .wearDiscard tag body => Sys2Proof.Machine.execWearDiscard tag body s
  | .wearRetire tag body => Sys2Proof.Machine.execWearRetire tag body s
  | .watchDefine tag body => Sys2Proof.Machine.execWatchDefine tag body s
  | .watchArm tag body => Sys2Proof.Machine.execWatchArm tag body s
  | .watchDisarm tag body => Sys2Proof.Machine.execWatchDisarm tag body s
  | .watchExchange tag body => Sys2Proof.Machine.execWatchExchange tag body s
  | .watchRead tag body => Sys2Proof.Machine.execWatchRead tag body s
  | .latchRead tag body => Sys2Proof.Machine.execLatchRead tag body s
  | .inputCal tag body => Sys2Proof.Machine.execInputCal tag body s
  | .sourceRead tag body => Sys2Proof.Machine.execSourceRead tag body s
  | .monitorRoute tag body => Sys2Proof.Machine.execMonitorRoute tag body s
  | .traceSet tag body => Sys2Proof.Machine.execTraceSet tag body s
  | .indexRequest tag body => Sys2Proof.Machine.execIndexRequest tag body s
  | .indexCancel tag body => Sys2Proof.Machine.execIndexCancel tag body s
  | .indexResync tag body => Sys2Proof.Machine.execIndexResync tag body s
  | .carouselRead tag body => Sys2Proof.Machine.execCarouselRead tag body s
  | .unknownKind kind tag body => Sys2Proof.Machine.execUnknownKind kind tag body s
  | .frameDiscard b => Sys2Proof.Machine.execFrameDiscard b s
  | .receiveGapTimeout => Sys2Proof.Machine.execReceiveGapTimeout s
  | .frameSent => Sys2Proof.Machine.execFrameSent s
  | .powerOn => Sys2Proof.Machine.execPowerOn s
  | .powerLoss => Sys2Proof.Machine.execPowerLoss s
  | .startupReadEnd order => Sys2Proof.Machine.execStartupReadEnd order s
  | .restartTakesPlace => Sys2Proof.Machine.execRestartTakesPlace s
  | .saveWriteEnd => Sys2Proof.Machine.execSaveWriteEnd s
  | .stopAssert order => Sys2Proof.Machine.execStopAssert order s
  | .stopRelease => Sys2Proof.Machine.execStopRelease s
  | .inPositionChange level pos => Sys2Proof.Machine.execInPositionChange level pos s
  | .liftTimerExpiry => Sys2Proof.Machine.execLiftTimerExpiry s
  | .indexTimerExpiry => Sys2Proof.Machine.execIndexTimerExpiry s
  | .headUpdateTimer h => Sys2Proof.Machine.execHeadUpdateTimer h s
  | .rampEnd h => Sys2Proof.Machine.execRampEnd h s
  | .settleTimeExpiry h => Sys2Proof.Machine.execSettleTimeExpiry h s
  | .leadTimeExpiry h => Sys2Proof.Machine.execLeadTimeExpiry h s
  | .stepTimeLimit h => Sys2Proof.Machine.execStepTimeLimit h s
  | .overpolishExpiry h => Sys2Proof.Machine.execOverpolishExpiry h s
  | .starveLimitExpiry h => Sys2Proof.Machine.execStarveLimitExpiry h s
  | .releaseTimeExpiry h => Sys2Proof.Machine.execReleaseTimeExpiry h s
  | .autoZeroWindowEnd h z => Sys2Proof.Machine.execAutoZeroWindowEnd h z s
  | .sourceSample src raw order => Sys2Proof.Machine.execSourceSample src raw order s
  | .blankTimeExpiry w => Sys2Proof.Machine.execBlankTimeExpiry w s
  | .traceTimerExpiry => Sys2Proof.Machine.execTraceTimerExpiry s
  | .doseOpeningEnd r => Sys2Proof.Machine.execDoseOpeningEnd r s
  | .doseMeterTick r => Sys2Proof.Machine.execDoseMeterTick r s
  | .doseSegmentEnd r => Sys2Proof.Machine.execDoseSegmentEnd r s
  | .doseCapReached r => Sys2Proof.Machine.execDoseCapReached r s
  | .doseClosingEnd r => Sys2Proof.Machine.execDoseClosingEnd r s
  | .primeTimerExpiry l => Sys2Proof.Machine.execPrimeTimerExpiry l s
  | .condLoweringEnd p => Sys2Proof.Machine.execCondLoweringEnd p s
  | .condRaisingEnd p => Sys2Proof.Machine.execCondRaisingEnd p s
  | .condDwellEnd p => Sys2Proof.Machine.execCondDwellEnd p s
  | .learnedEntryStale p seg => Sys2Proof.Machine.execLearnedEntryStale p seg s
  | .padLifeTick p => Sys2Proof.Machine.execPadLifeTick p s
  | .byteArrival b => Sys2Proof.Machine.execByteArrival b s

end Sys2Proof.Machine
end

