-- ==== Sys2Proof/Safety.lean ====
section
/-! DEFINITION. What counts as a safe state: the laws the manual states of the whole part, in the terms claims use. A run is safe when
every state of it is. -/

namespace Sys2Proof

/-- The KIND, TAG and BODY of a command that is a request of 10.4, `none` for every other command. -/
def Instr.request : Instr → Option (Byte × Byte × List Byte)
  | .identify tag body => some (0x01, tag, body)
  | .status tag body => some (0x02, tag, body)
  | .restart tag body => some (0x03, tag, body)
  | .settingsSave tag body => some (0x04, tag, body)
  | .stepLoad tag body => some (0x10, tag, body)
  | .headStart tag body => some (0x11, tag, body)
  | .headHalt tag body => some (0x12, tag, body)
  | .headResume tag body => some (0x13, tag, body)
  | .headFlush tag body => some (0x14, tag, body)
  | .headStandby tag body => some (0x15, tag, body)
  | .trimSet tag body => some (0x16, tag, body)
  | .headLimits tag body => some (0x17, tag, body)
  | .headRead tag body => some (0x18, tag, body)
  | .zoneCal tag body => some (0x19, tag, body)
  | .platenMode tag body => some (0x20, tag, body)
  | .platenConfig tag body => some (0x21, tag, body)
  | .platenRead tag body => some (0x22, tag, body)
  | .doseSubmit tag body => some (0x28, tag, body)
  | .doseCancel tag body => some (0x29, tag, body)
  | .doseRead tag body => some (0x2A, tag, body)
  | .doseRelease tag body => some (0x2B, tag, body)
  | .lineConfig tag body => some (0x30, tag, body)
  | .lineOpen tag body => some (0x31, tag, body)
  | .lineTeardown tag body => some (0x32, tag, body)
  | .linePrime tag body => some (0x33, tag, body)
  | .lineRead tag body => some (0x34, tag, body)
  | .condProfile tag body => some (0x38, tag, body)
  | .condRun tag body => some (0x39, tag, body)
  | .condStop tag body => some (0x3A, tag, body)
  | .padChange tag body => some (0x3B, tag, body)
  | .wearSet tag body => some (0x3C, tag, body)
  | .wearRead tag body => some (0x3D, tag, body)
  | .wearCommit tag body => some (0x3E, tag, body)
  | .wearDiscard tag body => some (0x3F, tag, body)
  | .wearRetire tag body => some (0x40, tag, body)
  | .watchDefine tag body => some (0x48, tag, body)
  | .watchArm tag body => some (0x49, tag, body)
  | .watchDisarm tag body => some (0x4A, tag, body)
  | .watchExchange tag body => some (0x4B, tag, body)
  | .watchRead tag body => some (0x4C, tag, body)
  | .latchRead tag body => some (0x4D, tag, body)
  | .inputCal tag body => some (0x50, tag, body)
  | .sourceRead tag body => some (0x51, tag, body)
  | .monitorRoute tag body => some (0x52, tag, body)
  | .traceSet tag body => some (0x53, tag, body)
  | .indexRequest tag body => some (0x58, tag, body)
  | .indexCancel tag body => some (0x59, tag, body)
  | .indexResync tag body => some (0x5A, tag, body)
  | .carouselRead tag body => some (0x5B, tag, body)
  | .unknownKind _ _ _ => none
  | .frameDiscard _ => none
  | .receiveGapTimeout => none
  | .frameSent => none
  | .powerOn => none
  | .powerLoss => none
  | .startupReadEnd _ => none
  | .restartTakesPlace => none
  | .saveWriteEnd => none
  | .stopAssert _ => none
  | .stopRelease => none
  | .inPositionChange _ _ => none
  | .liftTimerExpiry => none
  | .indexTimerExpiry => none
  | .headUpdateTimer _ => none
  | .rampEnd _ => none
  | .settleTimeExpiry _ => none
  | .leadTimeExpiry _ => none
  | .stepTimeLimit _ => none
  | .overpolishExpiry _ => none
  | .starveLimitExpiry _ => none
  | .releaseTimeExpiry _ => none
  | .autoZeroWindowEnd _ _ => none
  | .sourceSample _ _ _ => none
  | .blankTimeExpiry _ => none
  | .traceTimerExpiry => none
  | .doseOpeningEnd _ => none
  | .doseMeterTick _ => none
  | .doseSegmentEnd _ => none
  | .doseCapReached _ => none
  | .doseClosingEnd _ => none
  | .primeTimerExpiry _ => none
  | .condLoweringEnd _ => none
  | .condRaisingEnd _ => none
  | .condDwellEnd _ => none
  | .learnedEntryStale _ _ => none
  | .padLifeTick _ => none
  | .byteArrival _ => none

/-- The commands that put blocks at their power-on values or take their stored items (R197, R198). -/
def Instr.restarts : Instr → Bool
  | .powerOn | .powerLoss | .startupReadEnd _ | .restartTakesPlace => true
  | _ => false

/-- The commands that are bytes or gaps on the link, or a frame of any KIND: each may hand on a whole request (R180). -/
def Instr.carriesFrames : Instr → Bool
  | .byteArrival _ | .frameDiscard _ | .receiveGapTimeout | .unknownKind _ _ _ => true
  | _ => false

end Sys2Proof

namespace Sys2Proof.Machine

/-! ### The link (R188, R189) -/

/-- The reply list holds at most 16 replies and the notice queue at most 32 notices. -/
def State.LinkBounded (s : State) : Prop :=
  s.link.replies.length ≤ Config.replyCapacity ∧ s.link.notices.length ≤ Config.noticeCapacity

/-! ### Heads (R3, R16 to R23, R37) -/

/-- The law of command range: every command of Z1 to Z4 lies in 0 to 6000, every RING command in 0 to 8000 (R37). -/
def State.CommandsInRange (s : State) : Prop :=
  ∀ (h : HeadIx) (z : ZoneIx), (s.heads[h.val].zones[z.val].command : Int) ≤ zoneMax z

/-- Whether a head in this state runs or prepares a current step (01, 1.1). -/
def HeadState.hasStep : HeadState → Bool
  | .armed | .slurryWait | .wetting | .pressing | .overpolish => true
  | _ => false

/-- Whether a head in this state has no current step (01, 1.1). In RELEASING there may be one or not. -/
def HeadState.noStep : HeadState → Bool
  | .idle | .starved | .halted => true
  | _ => false

/-- A head's slots and its state agree: at most two steps; a current step is a loaded one; a step is current in exactly the states
that have one; a step is held in STARVED alone; a reason is recorded in HALTED alone (R3, R20, R23, 1.1). -/
def Head.WellKept (d : Head) : Prop :=
  d.steps.length ≤ 2 ∧ (d.current = true → d.steps ≠ []) ∧ (d.state.hasStep = true → d.current = true)
    ∧ (d.state.noStep = true → d.current = false) ∧ (d.held.isSome = true ↔ d.state = .starved)
    ∧ (d.haltReason.isSome = true ↔ d.state = .halted)

/-- Every head's slots and state agree. -/
def State.HeadsWellKept (s : State) : Prop := ∀ h : HeadIx, s.heads[h.val].WellKept

/-! ### The interlock (R155, R157, R158) -/

/-- The law of the interlock, with what it rests on: while the carousel is in LIFTING, MOVING or FAULT every head is index-ready and
no conditioner is held or down; in MOVING every conditioner is STOWED. -/
def State.InterlockLaw (s : State) : Prop :=
  (s.car.state = .lifting ∨ s.car.state = .moving ∨ s.car.state = .fault →
    (∀ h : HeadIx, s.heads[h.val].indexReady = true)
      ∧ ∀ p : PlatenIx, s.conds[p.val].unheld = true ∧ s.conds[p.val].down = false)
  ∧ (s.car.state = .moving → ∀ p : PlatenIx, s.conds[p.val].arm = .stowed)

/-! ### Conditioners (R128, R129) -/

/-- The arm follows the holder set: a STOWED conditioner has no holder, and one that is down has at least one. -/
def Conditioner.Follows (c : Conditioner) : Prop :=
  (c.arm = .stowed → c.unheld = true) ∧ (c.down = true → c.unheld = false)

/-- Every arm follows its holder set. -/
def State.ArmsFollow (s : State) : Prop := ∀ p : PlatenIx, s.conds[p.val].Follows

/-! ### Watches (R121) -/

/-- A bound watch is defined (R121). -/
def State.BoundDefined (s : State) : Prop :=
  ∀ w : WatchIx, s.watches[w.val].bound.isSome = true → s.watches[w.val].state ≠ .undefined

/-! ### Doses (R55, R63, R65, R88, R97) -/

/-- Record `r` stands in exactly the place its state names (R63). -/
def State.Placed (s : State) (r : RecIx) : Prop :=
  let d := s.recs[r.val]
  (r ∈ s.free ↔ d.state = .free) ∧ (d.state = .free ∨ d.state = .held → 8 ≤ r.val) ∧ (d.state = .idle → r.val < 8)
    ∧ (∀ (l : LineIx) (c : ClassIx), r ∈ s.lines[l.val].queues[c.val] ↔ d.state = .queued ∧ d.line = l ∧ d.cls = c)
    ∧ (∀ l : LineIx, r ∈ s.lines[l.val].admitted ↔ d.state.admitted = true ∧ d.line = l)
    ∧ (d.state.present = true → d.platen.isSome = true)

/-- Every record is in exactly one place, no place names it twice, and a head's dose is one of its own two records (R63, R64, R65,
R87). -/
def State.PoolWellKept (s : State) : Prop :=
  (∀ r : RecIx, s.Placed r) ∧ s.free.Nodup
    ∧ (∀ l : LineIx, s.lines[l.val].admitted.Nodup ∧ ∀ c : ClassIx, s.lines[l.val].queues[c.val].Nodup)
    ∧ ∀ (h : HeadIx) (r : RecIx), s.heads[h.val].dose = some r → ownerOf r = some h

/-- The sum of the peaks of the admitted doses that `ok` picks. -/
def State.peakSum (s : State) (ok : DoseRec → Bool) : Nat :=
  ((s.recs.toList.filter fun d => d.state.admitted && ok d).map DoseRec.peak).sum

/-- The reservations are the sums they stand for, and lie within capacity and flow limit (R55, R88). -/
def State.WithinBudgets (s : State) : Prop :=
  (∀ l : LineIx, s.lines[l.val].reservation = s.peakSum (fun d => d.line == l)
      ∧ s.lines[l.val].reservation ≤ s.lines[l.val].config.capacity)
  ∧ ∀ p : PlatenIx, s.platens[p.val].reservation = s.peakSum (fun d => d.platen == some p)
      ∧ s.platens[p.val].reservation ≤ s.platens[p.val].config.flowLimit

/-- A dose in OPENING or FLOWING stands in a part that runs; its line is in READY, its platen in a mode that permits it, and STOP is
released (R97). -/
def State.LiveLaw (s : State) : Prop :=
  ∀ r : RecIx, s.recs[r.val].state.live = true →
    s.running = true ∧ s.lines[s.recs[r.val].line.val].state = .ready ∧ s.eligible r = true ∧ s.stop = false

/-- The laws of the doses together: places, budgets and live doses. -/
def State.DoseLaw (s : State) : Prop := s.PoolWellKept ∧ s.WithinBudgets ∧ s.LiveLaw

/-! ### The law of work (R5, R9, R22, R30) -/

/-- Whether a head in this state is past ARMED and not yet leaving the pad: the five states of R22. -/
def HeadState.works : HeadState → Bool
  | .slurryWait | .wetting | .pressing | .overpolish | .starved => true
  | _ => false

/-- Whether a head in this state has its dose FLOWING: from WETTING on (1.1). -/
def HeadState.flows : HeadState → Bool
  | .wetting | .pressing | .overpolish | .starved => true
  | _ => false

/-- Head `h` stands at the platen of its step whenever it works, or waits in ARMED with no index outstanding; whenever it works that
platen is in POLISHING and STOP is released; from WETTING on, the dose of a step that names a line is FLOWING (R5, R22). -/
def State.WorksLawfully (s : State) (h : HeadIx) : Prop :=
  let d := s.heads[h.val]
  (d.state.works = true ∨ (d.state = .armed ∧ d.indexMark = false) →
    ∃ t, d.workStep = some t ∧ s.station h = platenNo t.platen)
  ∧ (d.state.works = true → ∀ t, d.workStep = some t → s.platens[t.platen.val].mode = .polishing ∧ s.stop = false)
  ∧ (d.state.flows = true → ∀ t, d.workStep = some t → t.line.isSome = true →
      ∃ r, d.dose = some r ∧ s.recs[r.val].state = .flowing)

/-- The law of work of every head, with what it rests on: in a part that does not run every head is IDLE, under STOP every head of a
running part is HALTED (R30), and a dose of a head record has no end of its own (R64). -/
def State.WorkLaw (s : State) : Prop :=
  (∀ h : HeadIx, s.WorksLawfully h)
  ∧ (s.running = false → ∀ h : HeadIx, s.heads[h.val].state = .idle)
  ∧ (s.running = true → s.stop = true → ∀ h : HeadIx, s.heads[h.val].state = .halted)
  ∧ ∀ r : RecIx, r.val < 8 → s.recs[r.val].state.present = true →
      s.recs[r.val].cap = none ∧ ∃ k, s.recs[r.val].segments = [⟨k, none⟩]

/-! ### Further laws of heads, zones, lines, watches and conditioners -/

/-- A head that does not work uses no dose: entry to RELEASING, HALTED or IDLE gives it up, and ARMED comes before its submission (R8,
R21, R23, 1.1). -/
def State.DosesOfWork (s : State) : Prop := ∀ h : HeadIx, s.heads[h.val].state.works = false → s.heads[h.val].dose = none

/-- A defined watch filters over at least one sample (R108, R110). -/
def State.FiltersCount (s : State) : Prop := ∀ w : WatchIx, s.watches[w.val].state ≠ .undefined → 1 ≤ s.watches[w.val].defn.count

/-- Every credit of a line lies in 0 to its class's weight (R92). -/
def State.CreditsWithinWeights (s : State) : Prop :=
  ∀ (l : LineIx) (c : ClassIx), s.lines[l.val].credits[c.val] ≤ s.lines[l.val].config.weights[c.val]

/-- In a part that runs, exactly the zones in VENT run an auto-zero window (R44). -/
def State.WindowsFollowVent (s : State) : Prop :=
  s.running = true → ∀ (h : HeadIx) (z : ZoneIx),
    (s.heads[h.val].zones[z.val].window.isSome = true ↔ s.heads[h.val].zones[z.val].mode = .vent)

/-- Whether the pressure stages apply in this head state (R33). -/
def HeadState.computes : HeadState → Bool
  | .pressing | .overpolish | .starved | .releasing => true
  | _ => false

/-- Every ring margin of a set of configuration rows is in the range of R28. -/
def ConfigRows.MarginsInRange (c : ConfigRows) : Prop := ∀ h : HeadIx, c.limits[h.val].ringMargin ≤ 3000

/-- The law of margin (R38): while the stages apply, the RING command is at least the Z4 command plus the ring margin. With it stands
what it rests on: every ring margin, live, stored or on its way to the image, is in its range (R28, R193). -/
def State.MarginLaw (s : State) : Prop :=
  (∀ h : HeadIx, s.heads[h.val].limits.ringMargin ≤ 3000
      ∧ (s.heads[h.val].state.computes = true →
          s.heads[h.val].zones[4].command + s.heads[h.val].limits.ringMargin ≤ s.heads[h.val].zones[0].command))
  ∧ s.store.image.config.MarginsInRange ∧ s.store.workConfig.MarginsInRange
  ∧ ∀ job, s.store.save = .writing job → job.config.MarginsInRange

/-- A head holds a conditioner only while it works a COND-INSITU step on that platen, in PRESSING, OVERPOLISH or STARVED (R133); and a
watch is bound only to a head that presses on a step naming it (R121, R122). -/
def State.HoldersWork (s : State) : Prop :=
  (∀ (p : PlatenIx) (h : HeadIx), s.conds[p.val].head = some h →
    (s.heads[h.val].state.isPressing = true ∨ s.heads[h.val].state = .starved)
      ∧ ∃ t, s.heads[h.val].workStep = some t ∧ t.platen = p ∧ t.condInsitu = true)
  ∧ ∀ (w : WatchIx) (h : HeadIx), s.watches[w.val].bound = some h →
    s.heads[h.val].state.isPressing = true ∧ ∃ t, s.heads[h.val].step = some t ∧ t.watch = some w

/-! ### How claims speak of replies and frames (R182, R183, R189) -/

/-- The link once a request has been judged: the receiver is in HUNTING, and the reply stands at the tail of the reply list or is
being sent. -/
def Link.answered (k : Link) (kind tag : Byte) (r : Response) : Link :=
  { k with rx := .hunting }.placeReply ⟨replyKind kind, tag, r.body⟩

/-- The state with a request of this KIND and TAG answered by `r`, and nothing else changed. -/
def State.replied (s : State) (kind tag : Byte) (r : Response) : State := s.modLink (·.answered kind tag r)

/-- The state with the receiver back in HUNTING, and nothing else changed. -/
def State.hunts (s : State) : State := s.modLink fun k => { k with rx := .hunting }

/-- `t` is reached from `s` by the commands `cs`, one after another, each answering a next state. -/
def Reaches : List Instr → State → State → Prop
  | [], s, t => s = t
  | c :: cs, s, t => ∃ u, exec c s = .next u ∧ Reaches cs u t

/-- The BODY length the table of 10.4 gives a request KIND, DOSE-SUBMIT apart; `none` for a KIND that is no request kind. -/
def bodyLength (kind : Nat) : Option Nat :=
  [(0x01, 0), (0x02, 0), (0x03, 0), (0x04, 0), (0x10, 30), (0x11, 1), (0x12, 1), (0x13, 1), (0x14, 1), (0x15, 2), (0x16, 11),
    (0x17, 19), (0x18, 1), (0x19, 10), (0x20, 2), (0x21, 12), (0x22, 1), (0x29, 1), (0x2A, 1), (0x2B, 1), (0x30, 14), (0x31, 1),
    (0x32, 1), (0x33, 1), (0x34, 1), (0x38, 7), (0x39, 3), (0x3A, 1), (0x3B, 1), (0x3C, 6), (0x3D, 1), (0x3E, 1), (0x3F, 1),
    (0x40, 1), (0x48, 23), (0x49, 1), (0x4A, 1), (0x4B, 5), (0x4C, 1), (0x4D, 0), (0x50, 13), (0x51, 1), (0x52, 10), (0x53, 9),
    (0x58, 4), (0x59, 0), (0x5A, 0), (0x5B, 0)].lookup kind

/-- Test 2 of R182: the BODY has the length its KIND asks for. -/
def lengthFits (kind : Byte) (body : List Byte) : Bool :=
  if kind = 0x28 then 14 ≤ body.length && body.length == 14 + 6 * (256 * (body.getD 8 0).toNat + (body.getD 9 0).toNat)
  else bodyLength kind.toNat == some body.length

/-- `q` is the quotient of `n` by `d` rounded to nearest, ties away from zero (00_scope.md, 4.4). -/
def IsNearest (n : Int) (d : Nat) (q : Int) : Prop :=
  2 * (n - q * d).natAbs < d ∨ (2 * (n - q * d).natAbs = d ∧ n.natAbs < (q * d).natAbs)

/-! ### How claims speak of heads (R16 to R23) -/

/-- What entry to HALTED leaves (R23): the head halted with its reason, its step and its hold ended, its zones at standby with
command 0, its dose, its holder and its watch given up; and what no entry to HALTED touches. -/
structure State.EntersHalted (s t : State) (h : HeadIx) (why : HaltReason) : Prop where
  state : t.heads[h.val].state = .halted
  reason : t.heads[h.val].haltReason = some why
  noStep : t.heads[h.val].current = false ∧ t.heads[h.val].held = none ∧ t.heads[h.val].snapshot = []
  noDose : t.heads[h.val].dose = none
  noTimers : t.heads[h.val].updateDue = none ∧ t.heads[h.val].supervision = .off
  zones : ∀ z : ZoneIx, t.heads[h.val].zones[z.val].command = 0 ∧ t.heads[h.val].zones[z.val].regulator = 0
    ∧ t.heads[h.val].zones[z.val].mode = s.heads[h.val].standby.mode z
    ∧ t.heads[h.val].zones[z.val].trim = s.heads[h.val].zones[z.val].trim
  noHolder : ∀ p : PlatenIx, t.conds[p.val].head ≠ some h
  noWatch : ∀ w : WatchIx, t.watches[w.val].bound ≠ some h
  otherHeads : ∀ k : HeadIx, k ≠ h → t.heads[k.val] = s.heads[k.val]
  pool : t.free = s.free ∧ t.counter = s.counter
  rest : t.wears = s.wears ∧ t.latches = s.latches ∧ t.hub = s.hub ∧ t.store = s.store ∧ t.stop = s.stop ∧ t.power = s.power
    ∧ t.restart = s.restart ∧ t.draws = s.draws
  modes : t.platens.map Platen.mode = s.platens.map Platen.mode

/-- What entry to RELEASING leaves (R21, R33): the head in RELEASING from the present moment, its dose and its holder given up, its
ramp begun at the commands it had. -/
structure State.EntersReleasing (s t : State) (h : HeadIx) : Prop where
  state : t.heads[h.val].state = .releasing
  since : t.heads[h.val].entered = t.now ∧ t.heads[h.val].updateDue = some (t.now + 10)
  noDose : t.heads[h.val].dose = none
  noHolder : ∀ p : PlatenIx, t.conds[p.val].head ≠ some h
  noSupervision : t.heads[h.val].supervision = .off
  ramp : ∀ z : ZoneIx, t.heads[h.val].zones[z.val].rampStart = s.heads[h.val].zones[z.val].command
    ∧ t.heads[h.val].zones[z.val].mode = s.heads[h.val].zones[z.val].mode

/-- What entry to PRESSING leaves at its end, the binding of a watch not having failed (R11): the step clock at 0, the five zones in
PRESSURE, the update timer set, each ramp begun at the last command of a zone in PRESSURE and at 0 of any other (R35). -/
structure State.EntersPressing (s t : State) (h : HeadIx) : Prop where
  state : t.heads[h.val].state = .pressing
  clock : t.heads[h.val].pressStart = t.now ∧ t.heads[h.val].updateDue = some (t.now + 10) ∧ t.heads[h.val].endpoint = none
  dose : t.heads[h.val].dose = s.heads[h.val].dose
  zones : ∀ z : ZoneIx, t.heads[h.val].zones[z.val].mode = .pressure
    ∧ t.heads[h.val].zones[z.val].rampStart
      = if s.heads[h.val].zones[z.val].mode = .pressure then (s.heads[h.val].zones[z.val].command : Int) else 0

/-- The watch a step names can be bound to head `h`: it is defined and bound to no other head (R121). -/
def State.Bindable (s : State) (h : HeadIx) (t : Step) : Prop :=
  ∀ w, t.watch = some w → s.watches[w.val].state ≠ .undefined ∧ (s.watches[w.val].bound = none ∨ s.watches[w.val].bound = some h)

/-- The choice at a step's end (R17 to R20): the next step pressed on continuously, or RELEASING with it current; with none loaded,
STARVED for a step with CHAIN and RELEASING otherwise. A starve limit of 0 expires at the entry. -/
def State.Succession (s t : State) (h : HeadIx) (ended : Step) (rest : List Step) : Prop :=
  (∀ k : HeadIx, k ≠ h → t.heads[k.val] = s.heads[k.val])
  ∧ match rest with
    | next :: _ =>
      (continuous ended next = true → s.Bindable h next →
        s.EntersPressing t h ∧ t.heads[h.val].steps = rest ∧ t.heads[h.val].current = true)
      ∧ (continuous ended next = false →
        s.EntersReleasing t h ∧ t.heads[h.val].steps = rest ∧ t.heads[h.val].current = true
          ∧ t.heads[h.val].indexMark = next.awaitIndex)
    | [] => t.heads[h.val].steps = [] ∧ t.heads[h.val].current = false
      ∧ (ended.chain = true → s.heads[h.val].limits.starveLimit ≠ 0 →
          t.heads[h.val].state = .starved ∧ t.heads[h.val].held = some ended ∧ t.heads[h.val].entered = t.now
          ∧ t.heads[h.val].frozenClock = t.now - s.heads[h.val].pressStart ∧ t.heads[h.val].dose = s.heads[h.val].dose
          ∧ ∀ z : ZoneIx, t.heads[h.val].zones[z.val].command = s.heads[h.val].zones[z.val].command)
      ∧ (ended.chain = false ∨ s.heads[h.val].limits.starveLimit = 0 → s.EntersReleasing t h)

/-- What the interlock's test of readiness leaves after a change of head states (R155, R157, R149): a carousel in PENDING that finds every
head index-ready is in LIFTING from the present moment, every conditioner emptied and up or on its way up with INDEX; otherwise the
interlock is as before. -/
def State.LiftsWhenReady (s t : State) : Prop :=
  (s.car.state = .pending → (∀ h : HeadIx, t.heads[h.val].indexReady = true) →
    t.car = { s.car with state := .lifting, liftStart := t.now, lifted := false }
      ∧ ∀ p : PlatenIx, t.conds[p.val].unheld = true ∧ t.conds[p.val].down = false
          ∧ (t.conds[p.val].arm ≠ .stowed → t.conds[p.val].endReason = some .index))
  ∧ (s.car.state ≠ .pending ∨ (∃ h : HeadIx, t.heads[h.val].indexReady = false) → t.car = s.car)

/-- What follows for a head that leaves ARMED to work on step `k` (R7, R8, R11): PRESSING for a step that names neither a line nor a watch;
for a step with a line SLURRY-WAIT, with a dose on the head's first IDLE record or with none while both are CLOSING, and HALTED where the
line no longer takes the dose. -/
def State.LeavesArmed (s t : State) (h : HeadIx) (k : Step) : Prop :=
  (k.line = none → k.watch = none → s.EntersPressing t h)
  ∧ ∀ l, k.line = some l →
    (s.idleRecord h = none → t.heads[h.val].state = .slurryWait ∧ t.heads[h.val].dose = none)
    ∧ ∀ r, s.idleRecord h = some r →
      (s.lineChecks l k.platen k.rate = none →
        t.heads[h.val].state = .slurryWait ∧ t.heads[h.val].dose = some r ∧ t.recs[r.val].line = l ∧ t.recs[r.val].platen = some k.platen
          ∧ t.recs[r.val].label = k.label ∧ t.recs[r.val].segments = [⟨k.rate, none⟩]
          ∧ (t.recs[r.val].state = .queued ∨ t.recs[r.val].state = .opening))
      ∧ (s.lineChecks l k.platen k.rate ≠ none →
        t.heads[h.val].state = .halted ∧ t.heads[h.val].haltReason = some .lineOffline)

/-- Each record of `t` is as in `s`, or was QUEUED there and opens at the present moment of `s`: what admissions do to the records (R93). -/
def State.OnlyOpens (s t : State) : Prop :=
  ∀ r : RecIx, t.recs[r.val] = s.recs[r.val]
    ∨ (s.recs[r.val].state = .queued ∧ t.recs[r.val] = { s.recs[r.val] with state := .opening, since := s.now })

/-- Line `l` has nothing more to admit: no class has a candidate and no record is stopped at, or the record stopped at does not fit its
budgets (R89, R93, R94). -/
def State.Exhausted (s : State) (l : LineIx) : Prop :=
  (s.lines[l.val].stoppedAt = none ∧ ∀ c : ClassIx, s.candidate l c = none)
  ∨ ∃ r, s.lines[l.val].stoppedAt = some r ∧ ∀ p, s.recs[r.val].platen = some p →
      s.lines[l.val].config.capacity < s.lines[l.val].reservation + s.recs[r.val].peak
      ∨ s.platens[p.val].config.flowLimit < s.platens[p.val].reservation + s.recs[r.val].peak

/-! ### How claims speak of dwells (R135, R136) -/

/-- The conditioner of platen `p` has begun a dwell on segment `g` at the present moment (R135, R136): its factor is the lookup's of this
moment, its time follows from base dwell and factor, and no torque is gathered yet. -/
def State.BeginsDwell (t : State) (p : PlatenIx) (g : SegIx) (inward : Bool) : Prop :=
  let c := t.conds[p.val]
  c.arm = .sweeping ∧ c.segment = g ∧ c.inward = inward ∧ c.entered = t.now ∧ (c.factor, c.factorSource) = t.lookup p g
    ∧ c.dwell = max 20 ((c.profile.baseDwell * c.factor + 128) / 256) ∧ c.torqueSum = 0 ∧ c.torqueCount = 0

/-! ### How claims speak of samples and firings (R118, R119, R168, R171) -/

/-- The value of a source's sample: for a channel the raw code scaled by the channel's calibration, for a zone channel less the zone's
offset; for every other source its present value at the moment of the sample (R168, R170, R171). -/
def State.sampleValue (s : State) (src : Source) (raw : Nat) : Int :=
  match src with
  | .pressure h z => max (-2147483648) (min 2147483647
      (s.hub.channels[5 * h.val + z.val].cal.scale raw - s.heads[h.val].zones[z.val].offset))
  | .friction p => s.hub.channels[20 + p.val].cal.scale raw
  | .reflectance p => s.hub.channels[23 + p.val].cal.scale raw
  | .torque p => s.hub.channels[26 + p.val].cal.scale raw
  | .flow l => s.hub.channels[29 + l.val].cal.scale raw
  | .constant => 0
  | .command h z => s.heads[h.val].zones[z.val].command
  | .platenReservation p => s.platens[p.val].reservation
  | .lineReservation l => s.lines[l.val].reservation
  | .padLife p => min 2147483647 s.wears[p.val].life
  | .latch i => s.latches[i.val].value
  | .stepClock h => s.heads[h.val].clock (max s.now (s.sampleDue src))

/-- The outcome WATCH-FIRED carries (R118, R119): of a firing of a watch bound to `bound`, `copied` being the value of its copy source. -/
def State.firingOutcome (s : State) (d : WatchDef) (bound : Option HeadIx) (copied : Int) : WatchOutcome :=
  let state := s.heads[d.target.val].state
  match d.action, d.dest with
  | .notify, _ => .performed
  | .halt, _ => if state = .halted then .noEffect else .performed
  | .latch, .latch _ _ => .performed
  | .latch, .trim _ _ => if -1000 ≤ copied ∧ copied ≤ 1000 then .performed else .clamped
  | .advance, _ =>
    if bound = some d.target then if state = .pressing then .endpoint else .noEffect
    else if state = .pressing ∨ state = .overpolish then .performed else .noEffect

/-! ### All together -/

/-- A safe state: every law above holds in it. -/
structure State.Safe (s : State) : Prop where
  link : s.LinkBounded
  commands : s.CommandsInRange
  heads : s.HeadsWellKept
  interlock : s.InterlockLaw
  arms : s.ArmsFollow
  watches : s.BoundDefined
  doses : s.DoseLaw
  work : s.WorkLaw

end Sys2Proof.Machine
end

