-- ==== Sys2Proof/WellFormed.lean ====
section
/-! DEFINITION. Which commands can occur: the bodies and kinds of frames, and the orders of parties that take one event. -/

namespace Sys2Proof

/-- The request kinds of 10.4. -/
def requestKinds : List Nat :=
  [0x01, 0x02, 0x03, 0x04] ++ [0x10, 0x11, 0x12, 0x13, 0x14, 0x15, 0x16, 0x17, 0x18, 0x19] ++ [0x20, 0x21, 0x22]
    ++ [0x28, 0x29, 0x2A, 0x2B] ++ [0x30, 0x31, 0x32, 0x33, 0x34]
    ++ [0x38, 0x39, 0x3A, 0x3B, 0x3C, 0x3D, 0x3E, 0x3F, 0x40] ++ [0x48, 0x49, 0x4A, 0x4B, 0x4C, 0x4D]
    ++ [0x50, 0x51, 0x52, 0x53] ++ [0x58, 0x59, 0x5A, 0x5B]

/-- A BODY fits a frame (R179). -/
def bodyFits (body : List Byte) : Bool := body.length ≤ Config.maxBody

/-- Whether a command can occur: a frame's BODY has at most 248 bytes (R179), a frame of UNKNOWN_KIND carries no request kind (R182),
and an order names no party twice (R171, R199). -/
def Instr.wellFormed : Instr → Bool
  | .identify _ body => bodyFits body
  | .status _ body => bodyFits body
  | .restart _ body => bodyFits body
  | .settingsSave _ body => bodyFits body
  | .stepLoad _ body => bodyFits body
  | .headStart _ body => bodyFits body
  | .headHalt _ body => bodyFits body
  | .headResume _ body => bodyFits body
  | .headFlush _ body => bodyFits body
  | .headStandby _ body => bodyFits body
  | .trimSet _ body => bodyFits body
  | .headLimits _ body => bodyFits body
  | .headRead _ body => bodyFits body
  | .zoneCal _ body => bodyFits body
  | .platenMode _ body => bodyFits body
  | .platenConfig _ body => bodyFits body
  | .platenRead _ body => bodyFits body
  | .doseSubmit _ body => bodyFits body
  | .doseCancel _ body => bodyFits body
  | .doseRead _ body => bodyFits body
  | .doseRelease _ body => bodyFits body
  | .lineConfig _ body => bodyFits body
  | .lineOpen _ body => bodyFits body
  | .lineTeardown _ body => bodyFits body
  | .linePrime _ body => bodyFits body
  | .lineRead _ body => bodyFits body
  | .condProfile _ body => bodyFits body
  | .condRun _ body => bodyFits body
  | .condStop _ body => bodyFits body
  | .padChange _ body => bodyFits body
  | .wearSet _ body => bodyFits body
  | .wearRead _ body => bodyFits body
  | .wearCommit _ body => bodyFits body
  | .wearDiscard _ body => bodyFits body
  | .wearRetire _ body => bodyFits body
  | .watchDefine _ body => bodyFits body
  | .watchArm _ body => bodyFits body
  | .watchDisarm _ body => bodyFits body
  | .watchExchange _ body => bodyFits body
  | .watchRead _ body => bodyFits body
  | .latchRead _ body => bodyFits body
  | .inputCal _ body => bodyFits body
  | .sourceRead _ body => bodyFits body
  | .monitorRoute _ body => bodyFits body
  | .traceSet _ body => bodyFits body
  | .indexRequest _ body => bodyFits body
  | .indexCancel _ body => bodyFits body
  | .indexResync _ body => bodyFits body
  | .carouselRead _ body => bodyFits body
  | .unknownKind kind _ body => bodyFits body && !requestKinds.contains kind.toNat
  | .frameDiscard _ => true
  | .receiveGapTimeout => true
  | .frameSent => true
  | .powerOn => true
  | .powerLoss => true
  | .startupReadEnd order => decide order.Nodup
  | .restartTakesPlace => true
  | .saveWriteEnd => true
  | .stopAssert order => decide order.Nodup
  | .stopRelease => true
  | .inPositionChange _ _ => true
  | .liftTimerExpiry => true
  | .indexTimerExpiry => true
  | .headUpdateTimer _ => true
  | .rampEnd _ => true
  | .settleTimeExpiry _ => true
  | .leadTimeExpiry _ => true
  | .stepTimeLimit _ => true
  | .overpolishExpiry _ => true
  | .starveLimitExpiry _ => true
  | .releaseTimeExpiry _ => true
  | .autoZeroWindowEnd _ _ => true
  | .sourceSample _ _ order => decide order.Nodup
  | .blankTimeExpiry _ => true
  | .traceTimerExpiry => true
  | .doseOpeningEnd _ => true
  | .doseMeterTick _ => true
  | .doseSegmentEnd _ => true
  | .doseCapReached _ => true
  | .doseClosingEnd _ => true
  | .primeTimerExpiry _ => true
  | .condLoweringEnd _ => true
  | .condRaisingEnd _ => true
  | .condDwellEnd _ => true
  | .learnedEntryStale _ _ => true
  | .padLifeTick _ => true
  | .byteArrival _ => true

end Sys2Proof
end

