-- ==== Sys2Proof/Certificates/Slice0/Obligations.lean ====
section
/-! DEFINITION. The statements for the provers, in the order of OBLIGATIONS.json. -/

open Sys2Proof Sys2Proof.Machine

/-! ### The step and the whole part -/

/-- One step takes the command at the front of the queue and runs it with the queue's rest; the commands are first in, first out. With no
command waiting the part idles and 1 ms of its clock passes: the model's choice (log entry 1). -/
def Obligations.StepTakesTheFrontCommand : Prop :=
  ((∀ (c : Instr) (s : State), step { s with pending := c :: s.pending } = exec c s)
   ∧ ∀ (c : Instr) (rest : List Instr) (s : State), s.pending = c :: rest → step s = exec c { s with pending := rest })
  ∧ (∀ s : State, s.pending = [] → step s = .next { s with now := s.now + 1 })

/-- Every command completes in every state (log entry 22), leaves the queue to the step, and never turns the clock or the count of drawn
open values back; in a part that is off or starting only power, start-up and the wires do anything but move bytes on the link: for a
start-up as R197 gives, for a part without power by the model's choice (log entry 14). -/
def Obligations.EveryCommandCompletesAndKeepsTheQueue : Prop :=
  ∀ (c : Instr) (s : State), ∃ t, exec c s = .next t ∧ t.pending = s.pending ∧ s.now ≤ t.now ∧ s.draws ≤ t.draws
    ∧ (s.running = false → c.restarts = false → t.heads = s.heads ∧ t.recs = s.recs ∧ t.lines = s.lines ∧ t.platens = s.platens
      ∧ t.conds = s.conds ∧ t.wears = s.wears ∧ t.watches = s.watches ∧ t.latches = s.latches ∧ t.car = s.car ∧ t.hub = s.hub
      ∧ t.store = s.store ∧ t.link.replies = s.link.replies ∧ t.link.notices = s.link.notices ∧ t.link.tx = s.link.tx)

/-- Each piece of outer state and each setting moves by its own commands alone: the wires by the wires (POS with IN_POSITION_CHANGE alone,
log entry 15), power by power and start-up (log entry 14), the carousel position by an arrival, a resync and start-up (R152); outside
start-up each setting, mode and stored item by the command that writes it. Bytes of the link are set apart, because the frame they complete
may be any request. -/
def Obligations.OnlyTheirOwnCommandsChangeSettingsAndWires : Prop :=
  (∀ (c : Instr) (s t : State), exec c s = .next t →
     (t.stop ≠ s.stop → (∃ order, c = .stopAssert order) ∨ c = .stopRelease)
     ∧ (t.inPosition ≠ s.inPosition ∨ t.pos ≠ s.pos → ∃ level pos, c = .inPositionChange level pos)
     ∧ (t.power ≠ s.power → c.restarts = true)
     ∧ (t.car.position ≠ s.car.position → c.restarts = true ∨ c.carriesFrames = true ∨ (∃ level pos, c = .inPositionChange level pos)
         ∨ ∃ tag body, c = .indexResync tag body))
  ∧ (∀ (c : Instr) (s t : State), exec c s = .next t → c.restarts = false → c.carriesFrames = false →
      (∀ h : HeadIx, t.heads[h.val].limits ≠ s.heads[h.val].limits → ∃ tag body, c = .headLimits tag body)
      ∧ (∀ (h : HeadIx) (z : ZoneIx), t.heads[h.val].zones[z.val].cal ≠ s.heads[h.val].zones[z.val].cal →
          ∃ tag body, c = .zoneCal tag body)
      ∧ (∀ h : HeadIx, t.heads[h.val].standby ≠ s.heads[h.val].standby → ∃ tag body, c = .headStandby tag body)
      ∧ (∀ p : PlatenIx, t.platens[p.val].mode ≠ s.platens[p.val].mode → ∃ tag body, c = .platenMode tag body)
      ∧ (∀ p : PlatenIx, t.platens[p.val].config ≠ s.platens[p.val].config → ∃ tag body, c = .platenConfig tag body)
      ∧ (∀ l : LineIx, t.lines[l.val].config ≠ s.lines[l.val].config → ∃ tag body, c = .lineConfig tag body)
      ∧ (∀ p : PlatenIx, t.conds[p.val].profile ≠ s.conds[p.val].profile → ∃ tag body, c = .condProfile tag body)
      ∧ (∀ p : PlatenIx, t.wears[p.val].statics ≠ s.wears[p.val].statics → ∃ tag body, c = .wearSet tag body)
      ∧ (∀ k : ChanIx, t.hub.channels[k.val].cal ≠ s.hub.channels[k.val].cal → ∃ tag body, c = .inputCal tag body)
      ∧ (∀ o : MonIx, t.hub.monitors[o.val].route ≠ s.hub.monitors[o.val].route → ∃ tag body, c = .monitorRoute tag body)
      ∧ (t.car.liftTime ≠ s.car.liftTime ∨ t.car.indexTimeout ≠ s.car.indexTimeout → ∃ tag body, c = .indexRequest tag body)
      ∧ (∀ i : LatchIx, t.latches[i.val] ≠ s.latches[i.val] → ∃ src raw order, c = .sourceSample src raw order)
      ∧ (t.store.workConfig ≠ s.store.workConfig → ∃ tag body, c = .settingsSave tag body)
      ∧ (t.store.workCommitted ≠ s.store.workCommitted →
          ∃ tag body, c = .wearCommit tag body ∨ c = .wearRetire tag body))

/-- An event of a timer, a dose, a sample or the transmitter has no effect in a part that does not run, and the end of the image read has
none outside a start-up. For a start-up that follows from R197; for a part without power it is the model's choice (log entry 14). -/
def Obligations.EventsActOnlyInARunningPart : Prop :=
  (∀ s : State, s.running = false →
     exec .frameSent s = .next s ∧ exec .saveWriteEnd s = .next s ∧ exec .restartTakesPlace s = .next s
     ∧ exec .liftTimerExpiry s = .next s ∧ exec .indexTimerExpiry s = .next s ∧ exec .traceTimerExpiry s = .next s
     ∧ (∀ h : HeadIx, exec (.headUpdateTimer h) s = .next s ∧ exec (.rampEnd h) s = .next s
         ∧ exec (.settleTimeExpiry h) s = .next s ∧ exec (.leadTimeExpiry h) s = .next s ∧ exec (.stepTimeLimit h) s = .next s
         ∧ exec (.overpolishExpiry h) s = .next s ∧ exec (.starveLimitExpiry h) s = .next s
         ∧ exec (.releaseTimeExpiry h) s = .next s ∧ ∀ z : ZoneIx, exec (.autoZeroWindowEnd h z) s = .next s)
     ∧ (∀ src raw order, exec (.sourceSample src raw order) s = .next s) ∧ (∀ w : WatchIx, exec (.blankTimeExpiry w) s = .next s)
     ∧ (∀ r : RecIx, exec (.doseOpeningEnd r) s = .next s ∧ exec (.doseMeterTick r) s = .next s
         ∧ exec (.doseSegmentEnd r) s = .next s ∧ exec (.doseCapReached r) s = .next s ∧ exec (.doseClosingEnd r) s = .next s)
     ∧ (∀ l : LineIx, exec (.primeTimerExpiry l) s = .next s)
     ∧ ∀ p : PlatenIx, exec (.condLoweringEnd p) s = .next s ∧ exec (.condRaisingEnd p) s = .next s
         ∧ exec (.condDwellEnd p) s = .next s ∧ exec (.padLifeTick p) s = .next s
         ∧ ∀ g : SegIx, exec (.learnedEntryStale p g) s = .next s)
  ∧ (∀ (s : State) (order : List StopTaker), (∀ cause since, s.power ≠ .starting cause since) →
      exec (.startupReadEnd order) s = .next s)

/-! ### Reset, power and start-up -/

/-- The reset state holds what the rules give for power-on: heads IDLE, zones in VENT at command 0, the pool, the lines OFFLINE with their
credits at the weights, the platens OFFLINE, the conditioners STOWED and unheld, the watches UNDEFINED, the latches 0, the hub, the
interlock and the Link Port empty and in HUNTING. That the settings stand at their defaults until the image is read (limits, weights, static
entries, routes, lift time, timeout) and the interlock at position 0 is log entry 4, that the wires, the power and the clock stand as they
do log entries 2 and 3. -/
def Obligations.ResetHoldsThePowerOnValues : Prop :=
  let s := State.reset
  (∀ h : HeadIx, s.heads[h.val].state = .idle ∧ s.heads[h.val].steps = [] ∧ s.heads[h.val].current = false
      ∧ s.heads[h.val].standby = .vent ∧ s.heads[h.val].snapshot = [] ∧ s.heads[h.val].haltReason = none
      ∧ s.heads[h.val].limits = ⟨500, 300, 500, 300, 2000, 500, 50, 10, 200⟩
      ∧ ∀ z : ZoneIx, s.heads[h.val].zones[z.val].mode = .vent ∧ s.heads[h.val].zones[z.val].command = 0
          ∧ s.heads[h.val].zones[z.val].trim = 0 ∧ s.heads[h.val].zones[z.val].offset = 0
          ∧ s.heads[h.val].zones[z.val].drift = false ∧ s.heads[h.val].zones[z.val].deviating = none)
  ∧ (∀ r : RecIx, s.recs[r.val].state = (if r.val < 8 then .idle else .free)) ∧ s.free.map Fin.val = List.range' 8 56 ∧ s.counter = 0
  ∧ (∀ l : LineIx, s.lines[l.val].state = .offline ∧ s.lines[l.val].credits = s.lines[l.val].config.weights
      ∧ s.lines[l.val].reservation = 0 ∧ s.lines[l.val].admitted = [] ∧ s.lines[l.val].volume = 0
      ∧ ∀ c : ClassIx, s.lines[l.val].queues[c.val] = [])
  ∧ (∀ p : PlatenIx, s.platens[p.val].mode = .offline ∧ s.platens[p.val].reservation = 0 ∧ s.platens[p.val].nextLine = 0
      ∧ s.conds[p.val].arm = .stowed ∧ s.conds[p.val].unheld = true ∧ s.wears[p.val].life = 0 ∧ s.wears[p.val].remainder = 0
      ∧ ∀ g : SegIx, s.wears[p.val].statics[g.val] = ⟨false, false, 256⟩ ∧ s.wears[p.val].learned[g.val].valid = false)
  ∧ (∀ w : WatchIx, s.watches[w.val].state = .undefined ∧ s.watches[w.val].bound = none ∧ s.watches[w.val].firings = 0)
  ∧ (∀ i : LatchIx, s.latches[i.val] = ⟨0, none⟩)
  ∧ s.car.position = 0 ∧ s.indexPermit = false ∧ s.car.last = none ∧ s.car.liftTime = 1500 ∧ s.car.indexTimeout = 6000
  ∧ (∀ k : ChanIx, s.hub.channels[k.val].raw = 0 ∧ s.hub.channels[k.val].scaled = 0) ∧ s.hub.trace.gate = .off
  ∧ (∀ o : MonIx, s.hub.monitors[o.val].code = 0 ∧ s.hub.monitors[o.val].route = ⟨.constant, 0, 4095⟩)
  ∧ s.link.rx = .hunting ∧ s.link.replies = [] ∧ s.link.notices = [] ∧ s.link.loss = false ∧ s.link.slot = none
  ∧ s.link.tx = none ∧ s.store.save = .none ∧ s.power = .starting .powerOn 0 ∧ s.pending = []

/-- The reset state is safe: every law of Safety.lean holds in it, so that each law's invariance speaks of every run from reset. -/
def Obligations.ResetIsSafe : Prop :=
  State.reset.Safe ∧ State.reset.CreditsWithinWeights ∧ State.reset.WindowsFollowVent ∧ State.reset.MarginLaw
    ∧ State.reset.HoldersWork ∧ State.reset.DosesOfWork ∧ State.reset.FiltersCount

/-- Power-on, power loss and a restart that takes place put every block at its power-on values: the blocks of the reset state, the stored
image, the wires, the clock and the queue kept. The values that stand until the image is read are the model's choice (log entry 4), and so
are what a loss of power leaves and that power can come on from any state (log entry 14). -/
def Obligations.PowerAndRestartResetTheBlocks : Prop :=
  ∀ s : State,
    let u : State := { State.reset with
      pending := s.pending, now := s.now, stop := s.stop, inPosition := s.inPosition, pos := s.pos, draws := s.draws,
      store := Store.powerOn s.store.image }
    exec .powerOn s = .next { u with power := .starting .powerOn s.now }
    ∧ exec .powerLoss s = .next { u with power := .off }
    ∧ (s.running = true → s.restart = .replySent → (∀ job, s.store.save ≠ .writing job) →
        exec .restartTakesPlace s = .next { u with power := .starting .restart s.now })
    ∧ (s.running = true → (s.restart ≠ .replySent ∨ ∃ job, s.store.save = .writing job) →
        exec .restartTakesPlace s = .next s)

/-- At the end of the image read every stored item is in its block when the image has a valid signature and layout version 2, and its
default otherwise; the interlock takes its position from POS or stands in FAULT; STARTED is the first notice; the part runs. The clock
stands at the end of the read, 250 ms after the start (log entry 1). -/
def Obligations.StartUpTakesTheImageOrTheDefaults : Prop :=
  ∀ (s : State) (cause : StartCause) (since : Nat) (order : List StopTaker), s.power = .starting cause since →
    s.link = { Link.powerOn with rx := s.link.rx } →
    ∃ t, exec (.startupReadEnd order) s = .next t ∧ t.running = true ∧ t.now = max s.now (since + 250) ∧ t.hub.startedAt = t.now
      ∧ (let i := s.store.image
         let ok := i.signed = true ∧ i.version = 2
         let c := if ok then i.config else ConfigRows.default
         let m := if ok then i.committed else Vector.replicate 3 Committed.default
         (t.store.outcome = if ok then .loaded else .defaulted) ∧ t.store.image = i ∧ t.store.workConfig = c
         ∧ t.store.workCommitted = m ∧ t.liveConfig = c
         ∧ (∀ p : PlatenIx, t.wears[p.val].life = m[p.val].life ∧ t.wears[p.val].remainder = 0
            ∧ ∀ g : SegIx, t.wears[p.val].learned[g.val] = ⟨m[p.val].entries[g.val].valid, m[p.val].entries[g.val].torque, none⟩))
      ∧ (t.car.position = if s.inPosition then s.pos else 0)
      ∧ (t.car.state = if s.inPosition then .idle else .fault)
      ∧ (t.car.outcome = if s.inPosition then .positioned else .unpositioned)
      ∧ (∃ f, t.link.tx = some f ∧ f.kind = 0xC0
          ∧ f.body = [b1 cause.code, b1 t.store.outcome.code, b1 t.car.outcome.code, b1 t.car.position.val, b1 (bit s.stop)])
      ∧ (s.stop = false → t.link.notices = [] ∧ ∀ h : HeadIx, t.heads[h.val].state = .idle)
      ∧ (s.stop = true → ∀ h : HeadIx, t.heads[h.val].state = .halted ∧ t.heads[h.val].haltReason = some .stop)
      ∧ ∀ (h : HeadIx) (z : ZoneIx), ∃ v, t.heads[h.val].zones[z.val].window = some ⟨t.now, v⟩

/-! ### The link -/

/-- IDENTIFY is answered with OK and the seven bytes of R190; the layout version there is the one a save writes, and an image of
another version is not loaded. -/
def Obligations.IdentifyAnswersThePartText : Prop :=
  (∀ (s : State) (tag : Byte), s.isOpen = true →
    exec (.identify tag []) s = .next (s.replied 0x01 tag (.ok [0x50, 0x4D, 0x2D, 0x34, 0x33, 3, 2])))
  ∧ (∀ (s : State) (job : SaveJob), s.running = true → s.store.save = .writing job →
      ∃ t, exec .saveWriteEnd s = .next t ∧ t.store.image.signed = true ∧ t.store.image.version = 2)
  ∧ ∀ (s : State) (cause : StartCause) (since : Nat) (order : List StopTaker), s.power = .starting cause since →
      s.store.image.version ≠ 2 → ∃ t, exec (.startupReadEnd order) s = .next t ∧ t.store.outcome = .defaulted

/-- STATUS is answered with OK and a snapshot of 23 bytes laid out as R191 gives; it changes nothing but the reply list. -/
def Obligations.StatusAnswersTwentyThreeBytes : Prop :=
  ∀ (s : State) (tag : Byte), s.isOpen = true →
    exec (.status tag []) s = .next (s.replied 0x02 tag (.ok
      ([b1 (bit s.stop), b1 s.car.state.code, b1 s.car.position.val,
        b1 s.heads[0].state.code, b1 s.heads[1].state.code, b1 s.heads[2].state.code, b1 s.heads[3].state.code,
        b1 s.lines[0].state.code, b1 s.lines[1].state.code, b1 s.lines[2].state.code, b1 s.lines[3].state.code,
        b1 s.platens[0].mode.code, b1 s.platens[1].mode.code, b1 s.platens[2].mode.code, b1 s.free.length,
        b1 s.store.outcome.code, b1 (bit (s.store.save != .none)),
        b1 (s.hub.monitors[0].code / 256), b1 s.hub.monitors[0].code, b1 (s.hub.monitors[1].code / 256),
        b1 s.hub.monitors[1].code, b1 s.link.notices.length, b1 (bit s.link.loss)])))

/-- The reads of the other blocks answer with OK for every name there is and with BAD-VALUE for every other, and change nothing but the
reply list. Each payload carries the fields of its rule in their order, a number most significant byte first; the codes and the fields that
stand for none are log entries 7 and 8, the codes of WEAR-READ's end reason log entry 36, the whole seconds of an entry's age log entry 32,
and the ms since a sample, which count from STARTED before the first one, log entry 25. -/
def Obligations.ReadsAnswerAndChangeNothing : Prop :=
  ∀ (s : State) (tag : Byte), s.isOpen = true →
    (∀ h : HeadIx,
      let d := s.heads[h.val]
      let clock := if d.state = .pressing ∨ d.state = .overpolish then s.now - d.pressStart
        else if d.state = .starved then d.frozenClock else 0
      exec (.headRead tag [b1 h.val]) s = .next (s.replied 0x18 tag (.ok
        (p1 d.state.code ++ p1 (optCode (d.haltReason.map HaltReason.code)) ++ p1 d.standby.code ++ p1 d.steps.length
          ++ p2 ((d.step.map Step.label).getD Config.absentLabel) ++ p1 (bit d.current) ++ p1 (bit d.indexMark) ++ p1 d.snapshot.length
          ++ p4 clock ++ p1 (optCode (d.dose.map (·.val))) ++ many (fun z => p2 z.command) d.zones.toList
          ++ many (fun z => p1 z.mode.code) d.zones.toList ++ many (fun z => s2 z.trim) d.zones.toList
          ++ p1 (bit d.marginActive) ++ p1 (bit d.marginLimited) ++ p1 (bit (s.conds.toList.any fun c => c.head == some h))
          ++ p1 (optCode (((List.finRange 16).find? fun w : WatchIx => s.watches[w.val].bound == some h).map (·.val)))
          ++ many (fun z => p1 (bit z.drift)) d.zones.toList))))
    ∧ (∀ p : PlatenIx,
      let c := s.platens[p.val]
      let count := fun ok : DoseRec → Bool => s.recs.toList.countP fun d => d.platen == some p && ok d
      exec (.platenRead tag [b1 (p.val + 1)]) s = .next (s.replied 0x22 tag (.ok
        (p1 c.mode.code ++ p2 c.config.flowLimit ++ p1 c.config.ceiling.val ++ many (fun k : ClassIx => p1 k.val) c.config.classes.toList
          ++ p2 c.reservation ++ p2 (c.config.flowLimit - c.reservation) ++ p1 c.nextLine.val
          ++ p1 (count fun d => d.state == .opening || d.state == .flowing || d.state == .closing) ++ p1 (count fun d => d.state == .queued)
          ++ p1 (count fun d => d.state == .queued && !(2 ≤ c.mode.code || (d.service && 1 ≤ c.mode.code)))
          ++ p1 (optCode (((List.finRange 4).find? fun h : HeadIx => s.heads[h.val].pressesOn p).map (·.val)))))))
    ∧ (∀ r : RecIx,
      let d := s.recs[r.val]
      let owner := if r.val < 8 then r.val / 2 else 4
      let here := if d.state = .queued ∨ d.state = .opening ∨ d.state = .flowing ∨ d.state = .closing then s.now - d.since else 0
      exec (.doseRead tag [b1 r.val]) s = .next (s.replied 0x2A tag (.ok
        (p1 r.val ++ p1 owner ++ p1 d.state.code ++ p4 d.sequence ++ p2 d.label ++ p1 ((d.platen.map (·.val + 1)).getD 0) ++ p1 d.line.val
          ++ p1 d.purpose ++ p1 d.cls.val ++ p1 (bit d.service) ++ p1 d.policy.code ++ p1 d.segments.length
          ++ many (fun g => p2 g.rate ++ p4 (g.duration.getD Config.openEndedDuration)) d.segments ++ p4 (d.cap.getD 0) ++ p2 d.peak
          ++ p1 d.segment ++ p4 d.segTime ++ p4 d.flowTime ++ p1 (DoseReason.code d.reason) ++ p4 (min 4294967295 (d.acc / 6000))
          ++ p4 (min 4294967295 here)))))
    ∧ (∀ l : LineIx,
      let c := s.lines[l.val]
      let queued := (c.queues[3] ++ c.queues[2] ++ c.queues[1] ++ c.queues[0]).countP fun r => !s.eligible r
      let down := fun v : Vector Nat 4 => p1 v[3] ++ p1 v[2] ++ p1 v[1] ++ p1 v[0]
      exec (.lineRead tag [b1 l.val]) s = .next (s.replied 0x34 tag (.ok
        (p1 c.state.code ++ p2 c.config.capacity ++ p1 c.config.scheme.code ++ down c.config.weights
          ++ p1 (bit c.config.membership[0] + 2 * bit c.config.membership[1] + 4 * bit c.config.membership[2]) ++ p2 c.config.primeTime
          ++ p1 c.config.tolerance ++ p2 c.config.faultTime ++ down c.credits ++ down (c.queues.map List.length) ++ p1 queued
          ++ p1 c.admitted.length ++ p2 c.reservation ++ p2 (c.config.capacity - c.reservation)
          ++ p1 (optCode (c.stoppedAt.map (·.val))) ++ p2 (s.pumpRate l) ++ p2 (if s.checkRuns l then s.pumpRate l else 0)
          ++ s4 s.hub.flows[l.val] ++ p2 ((c.faultSince.map (s.now - ·)).getD 0) ++ p2 ((c.primeDue.map (· - s.now)).getD 0)
          ++ p4 (min 4294967295 (c.volume / 6000))))))
    ∧ (∀ p : PlatenIx,
      let m := s.wears[p.val]
      let c := s.conds[p.val]
      let on := c.arm = .sweeping
      let fresh := fun e : LearnedEntry => (e.updated.map fun t => if s.now < t + 600000 then 1 else 0).getD 0
      exec (.wearRead tag [b1 (p.val + 1)]) s = .next (s.replied 0x3D tag (.ok
        (many (fun e => p1 (bit e.valid) ++ p1 (bit e.override) ++ p2 e.factor) m.statics.toList
          ++ many (fun e => p1 (bit e.valid) ++ p4 e.torque ++ p1 (fresh e)
              ++ p2 ((e.updated.map fun t => min 600 ((s.now - t) / 1000)).getD 600)
              ++ p2 (if e.valid then learnedFactor c.profile.refTorque e.torque else 512)) m.learned.toList
          ++ many (fun g => p2 (s.lookup p g).1 ++ p1 (s.lookup p g).2.code) (List.finRange 10) ++ p4 m.life ++ p2 m.remainder
          ++ p1 c.arm.code
          ++ (match c.host with
            | none => p1 0 ++ p2 Config.absentHostCount
            | some .continuous => p1 1 ++ p2 0
            | some (.sweeps n) => p1 1 ++ p2 n)
          ++ p1 (optCode (c.head.map (·.val))) ++ p1 (if on then c.segment.val else 0) ++ p1 (if on then bit c.inward else 0)
          ++ p1 (if on then (if c.inward then 20 - c.segment.val else c.segment.val + 1) else 0) ++ p2 (if on then c.factor else 0)
          ++ p1 (if on then c.factorSource.code else 0) ++ p2 (if on then c.dwell else 0) ++ p2 c.sweeps ++ p2 c.learned
          ++ p2 c.profile.baseDwell ++ p2 c.profile.refTorque ++ p2 c.profile.downforce
          ++ p1 (if c.arm = .raising then EndReason.code c.endReason else 255)))))
    ∧ (∀ w : WatchIx,
      let k := s.watches[w.val]
      let d := k.defn
      exec (.watchRead tag [b1 w.val]) s = .next (s.replied 0x4C tag (.ok
        (p1 k.state.code ++ p1 (Source.id d.source) ++ p1 d.relation.code ++ s4 d.threshold ++ p1 d.count ++ p4 d.window ++ p2 d.blank
          ++ p2 d.hold ++ p1 d.action.code ++ p1 d.target.val
          ++ (match d.dest with
            | .latch i b => p1 0 ++ p1 i.val ++ [b]
            | .trim h z => p1 1 ++ p1 h.val ++ p1 z.val)
          ++ p1 (Source.id d.copy) ++ p1 (bit d.repeats) ++ p1 (optCode (k.bound.map (·.val))) ++ p1 k.history.length
          ++ s4 (if k.history = [] then 0 else k.prevAvg.getD 0) ++ s4 (k.history.getLast?.getD 0) ++ p1 (bit k.crossed)
          ++ p2 (if k.state = .holding then s.now - k.holdStart.getD s.now else 0)
          ++ p2 (if k.state = .blanking then k.blankStart + d.blank - s.now else 0) ++ p2 k.firings))))
    ∧ exec (.latchRead tag []) s = .next (s.replied 0x4D tag (.ok
        (many (fun i => s4 i.value ++ p1 (optCode (i.writer.map (·.val)))) s.latches.toList)))
    ∧ (let c := s.car
      let f := fun h : HeadIx => c.state = .pending ∧ s.heads[h.val].indexReady = false
      let g := fun p : PlatenIx => c.state = .lifting ∧ s.conds[p.val].arm ≠ .stowed
      exec (.carouselRead tag []) s = .next (s.replied 0x5B tag (.ok
        (p1 c.state.code ++ p1 c.position.val ++ p1 c.position.val ++ p1 ((1 + c.position.val) % 4) ++ p1 ((2 + c.position.val) % 4)
          ++ p1 ((3 + c.position.val) % 4)
          ++ p1 (if c.state = .pending ∨ c.state = .lifting ∨ c.state = .moving then c.start.val else c.position.val)
          ++ p1 (if c.state = .moving then 1 else 0) ++ p1 (bit s.inPosition) ++ p1 s.pos.val
          ++ p1 (if c.state = .moving then c.phase.code else 255)
          ++ p1 ((if f 0 then 1 else 0) + (if f 1 then 2 else 0) + (if f 2 then 4 else 0) + (if f 3 then 8 else 0))
          ++ p1 ((if g 0 then 1 else 0) + (if g 1 then 2 else 0) + (if g 2 then 4 else 0))
          ++ p2 (if c.state = .lifting then c.liftStart + c.liftTime - s.now else 0)
          ++ p2 (if c.state = .moving then c.moveStart + c.indexTimeout - s.now else 0)
          ++ p2 c.liftTime ++ p2 c.indexTimeout ++ p1 (LastOutcome.code c.last) ++ p1 c.outcome.code))))
    ∧ (∀ src : Source,
      let offset := match src with
        | .pressure h z => s.heads[h.val].zones[z.val].offset
        | _ => 0
      exec (.sourceRead tag [b1 (Source.id src)]) s = .next (s.replied 0x51 tag (.ok
        (p1 (Source.id src) ++ s4 (s.sourceValue src)
          ++ (match Source.channel src with
            | none => p1 255 ++ p2 0 ++ s4 0
            | some c => p1 c.val ++ p2 s.hub.channels[c.val].raw ++ s4 s.hub.channels[c.val].scaled)
          ++ s2 offset ++ p1 (s.now - (s.hub.sampled[(Source.place src).val]).getD s.hub.startedAt)))))
    ∧ ∀ b : Byte,
      (3 < b.toNat → exec (.headRead tag [b]) s = .next (s.replied 0x18 tag (.refuse .badValue))
        ∧ exec (.lineRead tag [b]) s = .next (s.replied 0x34 tag (.refuse .badValue)))
      ∧ (b.toNat = 0 ∨ 3 < b.toNat → exec (.platenRead tag [b]) s = .next (s.replied 0x22 tag (.refuse .badValue))
        ∧ exec (.wearRead tag [b]) s = .next (s.replied 0x3D tag (.refuse .badValue)))
      ∧ (63 < b.toNat → exec (.doseRead tag [b]) s = .next (s.replied 0x2A tag (.refuse .badValue)))
      ∧ (15 < b.toNat → exec (.watchRead tag [b]) s = .next (s.replied 0x4C tag (.refuse .badValue)))
      ∧ ((∀ src : Source, Source.id src ≠ b.toNat) → exec (.sourceRead tag [b]) s = .next (s.replied 0x51 tag (.refuse .badValue)))

/-- A request whose BODY has not the length of its KIND is refused with BAD-LENGTH, a good frame of a KIND that is no request kind with
UNKNOWN-KIND; neither reaches a block or changes anything else. The reply's KIND is 0x80 plus the KIND, and 0xFF for a KIND from 0x80 on. -/
def Obligations.WrongLengthAndUnknownKindAreRefused : Prop :=
  (∀ (c : Instr) (kind tag : Byte) (body : List Byte) (s : State), c.request = some (kind, tag, body) → s.isOpen = true →
     lengthFits kind body = false → exec c s = .next (s.replied kind tag (.refuse .badLength)))
  ∧ (∀ (kind tag : Byte) (body : List Byte) (s : State), requestKinds.contains kind.toNat = false → s.isOpen = true →
      exec (.unknownKind kind tag body) s = .next (s.replied kind tag (.refuse .unknownKind))
      ∧ replyKind kind = if kind.toNat < 0x80 then BitVec.ofNat 8 (kind.toNat + 0x80) else 0xFF)

/-- Every request judged by an open receiver gets exactly one reply, with its TAG and its reply KIND: at the tail of the reply list, or
first to be sent by an idle transmitter with nothing waiting. While the receiver is closed a request is discarded: no reply and no effect
but on the receiver, which looks again at its bytes (log entry 9); without power nothing at all (log entry 14). Dispatch gives each request
kind of 10.4 to the command of its row, and every row has a request kind. -/
def Obligations.EveryOpenRequestGetsExactlyOneReply : Prop :=
  (∀ (c : Instr) (kind tag : Byte) (body : List Byte) (s : State), c.request = some (kind, tag, body) → s.isOpen = true →
     ∃ t f, exec c s = .next t ∧ f.kind = kind + 0x80 ∧ f.tag = tag ∧ 2 ≤ f.body.length ∧ t.link.rx = .hunting
       ∧ (s.link.tx.isSome = true → t.link.tx = s.link.tx ∧ t.link.replies = s.link.replies ++ [f])
       ∧ (s.link.tx = none → s.link.replies = [] → t.link.tx = some f ∧ t.link.replies = []))
  ∧ (∀ (c : Instr) (kind tag : Byte) (body : List Byte) (s : State), c.request = some (kind, tag, body) → s.isOpen = false →
      ∃ rx, exec c s = .next (s.modLink fun k => { k with rx := rx }) ∧ (s.power = .off → rx = s.link.rx))
  ∧ ((∀ (c : Instr) (kind tag : Byte) (body : List Byte) (s : State), c.request = some (kind, tag, body) →
      requestKinds.contains kind.toNat = true ∧ exec c s = .next (s.dispatch kind tag body))
    ∧ ∀ (kind tag : Byte) (body : List Byte), requestKinds.contains kind.toNat = true → ∃ c : Instr, c.request = some (kind, tag, body))

/-- A frame and its bytes agree: the bytes of a good frame, received one after another by an open receiver that hunts, are the arrival
of the frame; whatever its KIND, TAG and BODY. -/
def Obligations.FrameReceivedByteByByteArrives : Prop :=
  ∀ (f : Frame) (s : State), f.body.length ≤ 248 → s.isOpen = true → s.link.rx = .hunting →
    Reaches (f.bytes.map Instr.byteArrival) s (s.dispatch f.kind f.tag f.body)

/-- The receiver passes over every byte but SYNC while it hunts and collects from a SYNC on. A byte that comes more than 20 ms after the one
before ends the frame that was begun. Otherwise it discards a frame of bad LEN at that byte, and judges a frame when the bytes its LEN names
and the two of its CHECK are there: with a CHECK that differs the frame is discarded, with the right one it is dispatched while the receiver
is open and discarded while it is closed. A frame not complete is given up 20 ms after its last byte. No discarded byte of these could begin
another frame; a stray SYNC costs no good frame: the frame after it, or after the bytes the stray one claims for itself, is found by the
rescan and dispatched at the moment of the discard. The byte that completes a discard is a command of two rows (log entry 13); the gap
stands at 20 ms and is over after that (log entry 11). -/
def Obligations.ReceiverHuntsCollectsAndDiscards : Prop :=
  ((∀ (s : State) (b : Byte) (c : Instr), c = .byteArrival b ∨ c = .frameDiscard b → s.power ≠ .off → s.link.rx = .hunting →
     exec c s = .next (if b = 0xA5 then s.modLink fun k => { k with rx := .collecting ⟨b, s.now⟩ [] } else s))
   ∧ ∀ s : State, s.link.rx = .hunting → exec .receiveGapTimeout s = .next s)
  ∧ (∀ (f : Frame) (s : State), s.isOpen = true → s.link.rx = .hunting →
      (f.body.length ≤ 161 →
        Reaches ((0xA5 :: f.bytes).map Instr.byteArrival ++ [.receiveGapTimeout]) s ((s.reach (s.now + 20)).dispatch f.kind f.tag f.body))
      ∧ ∀ (n : Nat) (junk : List Byte), f.body.length ≤ 248 → n ≤ 250 → n ≠ 0xA5 → n + 2 = junk.length + f.bytes.length →
          (∀ x ∈ junk, x ≠ 0xA5) →
          let since := b1 n :: (junk ++ f.bytes)
          since.drop (n + 1) ≠ p2 (crc (since.take (n + 1))).toNat →
          Reaches ((0xA5 :: since).map Instr.byteArrival) s (s.dispatch f.kind f.tag f.body))
  ∧ ∀ (s : State) (sync : RxByte) (since : List RxByte), s.link.rx = .collecting sync since → sync.value = 0xA5 →
      let timely := List.IsChain fun x y : RxByte => y.time ≤ x.time + 20
      let length := fun xs : List RxByte => ((xs.map RxByte.value).headD 0).toNat
      let last := ((since.getLast?).getD sync).time
      timely (sync :: since) → since = [] ∨ (2 ≤ length since ∧ length since ≤ 250 ∧ since.length < length since + 3) →
      ((∀ x ∈ since, x.value ≠ 0xA5) → exec .receiveGapTimeout s = .next (s.reach (last + 20)).hunts)
      ∧ ∀ (b : Byte) (c : Instr), c = .byteArrival b ∨ c = .frameDiscard b → s.power ≠ .off →
        let all := since ++ [⟨b, s.now⟩]
        let values := all.map RxByte.value
        let n := length all
        let covered := values.take (n + 1)
        let checked := values.drop (n + 1) = p2 (crc covered).toNat
        (last + 20 < s.now → (∀ x ∈ since, x.value ≠ 0xA5) →
          exec c s = .next (if b = 0xA5 then s.modLink fun k => { k with rx := .collecting ⟨b, s.now⟩ [] } else s.hunts))
        ∧ (s.now ≤ last + 20 →
          (n < 2 ∨ 250 < n → (∀ x ∈ all, x.value ≠ 0xA5) → exec c s = .next s.hunts)
          ∧ (2 ≤ n → n ≤ 250 →
            (all.length < n + 3 → exec c s = .next (s.modLink fun k => { k with rx := .collecting sync all }))
            ∧ (all.length = n + 3 →
              (¬ checked → (∀ x ∈ all, x.value ≠ 0xA5) → exec c s = .next s.hunts)
              ∧ (checked → s.isOpen = false → (∀ x ∈ all, x.value ≠ 0xA5) → exec c s = .next s.hunts)
              ∧ (checked → s.isOpen = true →
                exec c s = .next (s.dispatch (covered.getD 1 0) (covered.getD 2 0) (covered.drop 3))))))

/-- When a frame ends the transmitter chooses the oldest reply, else the notice at the head of the queue, else the trace record, else
nothing; a notice frame takes the notice-loss flag into its TAG and clears it. -/
def Obligations.TransmitterChoosesByRank : Prop :=
  ∀ (s : State) (sent : Frame), s.running = true → s.link.tx = some sent → sent.acceptsRestart = false →
    (∀ f rest, s.link.replies = f :: rest →
      exec .frameSent s = .next (s.modLink fun k => { k with replies := rest, tx := some f }))
    ∧ (∀ n rest, s.link.replies = [] → s.link.notices = n :: rest →
      exec .frameSent s = .next (s.modLink fun k =>
        { k with notices := rest, loss := false, tx := some ⟨n.kind, if k.loss then 0x81 else 0x80, n.body⟩ }))
    ∧ (∀ r, s.link.replies = [] → s.link.notices = [] → s.link.slot = some r →
      exec .frameSent s = .next (s.modLink fun k =>
        { k with slot := none, loss := false, tx := some ⟨0xCC, if k.loss then 0x81 else 0x80, r.body⟩ }))
    ∧ (s.link.replies = [] → s.link.notices = [] → s.link.slot = none →
      exec .frameSent s = .next (s.modLink fun k => { k with tx := none }))

/-- Every step keeps the laws of the single blocks: the reply list never holds more than 16 replies and the notice queue never more than
32 notices; a head's slots agree with its state, and a head that does not work uses no dose; in a part that runs exactly the vented zones
run an auto-zero window; the credits of every line stay within its weights, every arm follows its holder set, a bound watch is defined, and
a defined watch filters over at least one sample. -/
def Obligations.EveryStepKeepsTheLawsOfItsBlocks : Prop :=
  ∀ s t : State, step s = .next t →
    (s.LinkBounded → t.LinkBounded) ∧ (s.HeadsWellKept → t.HeadsWellKept) ∧ (s.WindowsFollowVent → t.WindowsFollowVent)
    ∧ (s.CreditsWithinWeights → t.CreditsWithinWeights) ∧ (s.ArmsFollow → t.ArmsFollow) ∧ (s.BoundDefined → t.BoundDefined)
    ∧ (s.DosesOfWork → t.DosesOfWork) ∧ (s.BoundDefined → s.FiltersCount → t.FiltersCount)

/-! ### Saves, RESTART and STOP -/

/-- SETTINGS-SAVE, WEAR-COMMIT and WEAR-RETIRE are refused with BUSY while a save runs. Otherwise each captures what it saves at its
acceptance, the image loses its signature, and the save runs from that moment. Its end writes what was captured, with a valid signature and
layout version 2, and posts SAVE-END; where an accepted RESTART waited for it the save ends at its signature and posts nothing. The end of
the write, the signature and SAVE-END are one event (log entry 27), at which the clock stands (log entry 1). -/
def Obligations.SavesCaptureThenSignTheImage : Prop :=
  (∀ (s : State) (tag : Byte), s.isOpen = true →
     (s.store.save ≠ .none →
       exec (.settingsSave tag []) s = .next (s.replied 0x04 tag (.refuse .busy))
       ∧ ∀ p : PlatenIx, exec (.wearCommit tag [b1 (p.val + 1)]) s = .next (s.replied 0x3E tag (.refuse .busy))
           ∧ exec (.wearRetire tag [b1 (p.val + 1)]) s = .next (s.replied 0x40 tag (.refuse .busy)))
     ∧ (∀ b : Byte, b.toNat = 0 ∨ 3 < b.toNat →
       exec (.wearCommit tag [b]) s = .next (s.replied 0x3E tag (.refuse .badValue))
       ∧ exec (.wearRetire tag [b]) s = .next (s.replied 0x40 tag (.refuse .badValue)))
     ∧ (s.store.save = .none →
       exec (.settingsSave tag []) s = .next ((s.modStore fun u =>
         { u with workConfig := s.liveConfig, save := .writing ⟨.settingsSave, s.liveConfig, u.workCommitted, s.now⟩,
                  image := { u.image with signed := false } }).replied 0x04 tag (.ok []))
       ∧ ∀ p : PlatenIx,
           let m := s.store.workCommitted.set p.val s.wears[p.val].capture
           let reply := Response.ok (p1 s.wears[p.val].validCount ++ p4 s.wears[p.val].life)
           exec (.wearCommit tag [b1 (p.val + 1)]) s = .next ((s.modStore fun u =>
             { u with workCommitted := m, save := .writing ⟨.wearCommit p, u.workConfig, m, s.now⟩,
                      image := { u.image with signed := false } }).replied 0x3E tag reply)
           ∧ exec (.wearRetire tag [b1 (p.val + 1)]) s = .next (((s.modStore fun u =>
             { u with workCommitted := m, save := .writing ⟨.wearRetire p, u.workConfig, m, s.now⟩,
                      image := { u.image with signed := false } }).modWear p WearMap.forget).replied 0x40 tag
               (.ok (p1 s.wears[p.val].validCount)))))
  ∧ ((∀ (s : State) (job : SaveJob), s.running = true → s.store.save = .writing job →
      exec .saveWriteEnd s = .next
        (let u := { s.store with image := ⟨true, 2, job.config, job.committed⟩ }
         if s.restart = .replySent then { s.reach (job.since + 800) with store := { u with save := .signed } }
         else { s.reach (job.since + 800) with store := { u with save := .none } }.post (.saveEnd job.cause)))
    ∧ ∀ s : State, (∀ job, s.store.save ≠ .writing job) → exec .saveWriteEnd s = .next s)

/-- RESTART is accepted exactly when every head is IDLE or HALTED, no dose is admitted and the carousel is IDLE or in FAULT; its acceptance
closes the receiver, and the sending of its reply lets the restart take place. With no save to wait for that is the moment of the restart:
the transmitter begins nothing more, and what waits stays unsent (R192, log entry 34). While a save is short of its signature the
transmitter goes on with what waits. -/
def Obligations.RestartIsAcceptedOnlyWhenQuiet : Prop :=
  ∀ (s : State) (tag : Byte), s.isOpen = true →
    let quiet := (∀ h : HeadIx, s.heads[h.val].state = .idle ∨ s.heads[h.val].state = .halted)
      ∧ (∀ r : RecIx, s.recs[r.val].state ≠ .opening ∧ s.recs[r.val].state ≠ .flowing ∧ s.recs[r.val].state ≠ .closing)
      ∧ (s.car.state = .idle ∨ s.car.state = .fault)
    (¬ quiet → exec (.restart tag []) s = .next (s.replied 0x03 tag (.refuse .wrongState)))
    ∧ (quiet → ∃ t, exec (.restart tag []) s = .next t ∧ t = { s with restart := .replyWaiting }.replied 0x03 tag (.ok [])
        ∧ t.isOpen = false
        ∧ ∀ u : State, u.running = true → u.restart = .replyWaiting → u.link.tx = some ⟨0x83, tag, [0, 0]⟩ →
            ∃ v, exec .frameSent u = .next v ∧ v.restart = .replySent
              ∧ ((∀ job, u.store.save ≠ .writing job) → v.link.tx = none ∧ v.link.replies = u.link.replies
                  ∧ v.link.notices = u.link.notices ∧ v.link.slot = u.link.slot ∧ v.link.loss = u.link.loss)
              ∧ (∀ job n rest, u.store.save = .writing job → u.link.replies = [] → u.link.notices = n :: rest →
                  v.link.notices = rest ∧ v.link.loss = false ∧ v.link.tx = some ⟨n.kind, if u.link.loss then 0x81 else 0x80, n.body⟩))

/-- An assertion of STOP, taken by the parties in any order: every head HALTED, no dose OPENING or FLOWING, no line PRIMING, no conditioner
held or down, no index in progress. A head not yet HALTED has reason STOP, or SLURRY-LOST where its dose was OPENING or FLOWING and the pool
took the STOP first; STOP-CHANGE stands among the notices of the change. A repeated assertion changes nothing (log entry 15). A release
changes no head: it posts STOP-CHANGE, which a full notice queue turns into the notice-loss flag, and each line makes an admission attempt,
L0 first: no record moves but from QUEUED to OPENING, and no line in service is left with a dose it could admit. -/
def Obligations.StopHaltsTheWholePart : Prop :=
  (∀ (s : State) (order : List StopTaker),
     (s.stop = true → exec (.stopAssert order) s = .next s)
     ∧ (s.stop = false → s.running = false → exec (.stopAssert order) s = .next { s with stop := true })
     ∧ (s.stop = false → s.running = true → ∃ t, exec (.stopAssert order) s = .next t ∧ t.stop = true ∧ t.running = true
         ∧ (∀ h : HeadIx, t.heads[h.val].state = .halted) ∧ (∀ r : RecIx, t.recs[r.val].state.live = false)
         ∧ (∀ h : HeadIx, (s.heads[h.val].state = .halted → t.heads[h.val] = s.heads[h.val])
             ∧ (s.heads[h.val].state ≠ .halted → t.heads[h.val].haltReason = some .stop
                 ∨ (t.heads[h.val].haltReason = some .slurryLost
                     ∧ ∃ r, s.heads[h.val].dose = some r ∧ (s.recs[r.val].state = .opening ∨ s.recs[r.val].state = .flowing))))
         ∧ (s.link.tx.isSome = true →
             (s.link.notices.length + 10 ≤ 32 → ∃ earlier later,
               t.link.notices = s.link.notices ++ earlier ++ .stopChange true :: later)
             ∧ (32 ≤ s.link.notices.length → t.link.loss = true ∧ t.link.notices = s.link.notices))
         ∧ (∀ l : LineIx, t.lines[l.val].state ≠ .priming)
         ∧ (∀ p : PlatenIx, t.conds[p.val].unheld = true ∧ t.conds[p.val].down = false)
         ∧ t.car.state.inIndex = false ∧ t.platens.map Platen.mode = s.platens.map Platen.mode
         ∧ t.wears = s.wears ∧ t.latches = s.latches ∧ t.hub = s.hub ∧ t.store = s.store ∧ t.now = s.now))
  ∧ (∀ s : State,
      (s.stop = false → exec .stopRelease s = .next s)
      ∧ (s.stop = true → s.running = false → exec .stopRelease s = .next { s with stop := false })
      ∧ (s.stop = true → s.running = true →
          let v := { s with stop := false }.post (.stopChange false)
          let t := (((v.attempt 0).attempt 1).attempt 2).attempt 3
          exec .stopRelease s = .next t ∧ t = { v with recs := t.recs, lines := t.lines, platens := t.platens }
          ∧ (s.link.tx.isSome = true → s.link.notices.length < 32 → t.link = { s.link with notices := s.link.notices ++ [.stopChange false] })
          ∧ (s.link.tx.isSome = true → 32 ≤ s.link.notices.length → t.link = { s.link with loss := true })
          ∧ t.platens.map Platen.mode = s.platens.map Platen.mode ∧ t.lines.map Line.config = s.lines.map Line.config
          ∧ (s.PoolWellKept → s.OnlyOpens t
              ∧ ∀ l : LineIx, s.lines[l.val].state = .ready ∨ s.lines[l.val].state = .priming →
                  (∀ c : ClassIx, 0 < s.lines[l.val].config.weights[c.val]) → t.Exhausted l)))

/-! ### Heads -/

/-- STEP-LOAD makes its checks in order and, in every state but STARVED, keeps the record of the BODY, field for field, in a slot behind
those loaded before it. -/
def Obligations.StepLoadKeepsTheRecordInASlot : Prop :=
  ∀ (s : State) (tag : Byte) (body : List Byte) (q : StepBody), s.isOpen = true → parseStep body = some q →
    let ok := 1 ≤ q.timeLimit ∧ q.timeLimit ≤ 600000 ∧ q.rampTime ≤ 60000 ∧ (q.line < 4 ∨ q.line = 255)
      ∧ (q.line ≠ 255 → q.purpose ≤ 7 ∧ 1 ≤ q.rate ∧ q.rate ≤ 600 ∧ q.lead ≤ 30000) ∧ (q.watch < 16 ∨ q.watch = 255)
      ∧ (q.watch ≠ 255 → q.overpolish ≤ 60000) ∧ q.flags < 32 ∧ (q.flags / 4 % 2 = 1 → q.watch ≠ 255)
    (4 ≤ q.head ∨ q.platen = 0 ∨ 3 < q.platen ∨ ¬ ok →
      exec (.stepLoad tag body) s = .next (s.replied 0x10 tag (.refuse .badValue)))
    ∧ ∀ (h : HeadIx) (p : PlatenIx), q.head = h.val → q.platen = p.val + 1 → ok →
      let t := q.step p
      let d := s.heads[h.val]
      (∀ l, t.line = some l → s.lines[l.val].config.membership[p.val] = false →
        exec (.stepLoad tag body) s = .next (s.replied 0x10 tag (.refuse .notMember)))
      ∧ (∀ l, t.line = some l → s.lines[l.val].config.membership[p.val] = true →
        s.lines[l.val].config.capacity < t.rate ∨ s.platens[p.val].config.flowLimit < t.rate →
        exec (.stepLoad tag body) s = .next (s.replied 0x10 tag (.refuse .badValue)))
      ∧ ((∀ l, t.line = some l → s.lines[l.val].config.membership[p.val] = true ∧ t.rate ≤ s.lines[l.val].config.capacity
            ∧ t.rate ≤ s.platens[p.val].config.flowLimit) →
        (2 ≤ d.steps.length → exec (.stepLoad tag body) s = .next (s.replied 0x10 tag (.refuse .slotsFull)))
        ∧ (d.steps.length < 2 → d.state ≠ .starved →
            exec (.stepLoad tag body) s = .next
              ((s.modHead h fun d => { d with steps := d.steps ++ [t] }).replied 0x10 tag (.ok [b1 (d.steps.length + 1)])))
        ∧ (∀ ended, d.steps = [] → d.state = .starved → d.held = some ended →
            ∃ u, exec (.stepLoad tag body) s = .next u ∧ u.heads[h.val].held = none ∧ u.now = s.now ∧ s.Succession u h ended [t]))

/-- The BODY of R184 carries every field of a step record: a head and a step written out at the offsets of R184 are read back, whatever
the values the fields can hold. -/
def Obligations.StepBodyCarriesEveryField : Prop :=
  ∀ (h : HeadIx) (t : Step), t.label < 65536 → t.timeLimit < 4294967296 → t.rampTime < 65536 →
    (∀ z : ZoneIx, t.targets[z.val] < 65536) → t.purpose < 256 → t.rate < 65536 → t.lead < 65536 → t.overpolish < 65536 →
    let flags := bit t.chain + 2 * bit t.awaitIndex + 4 * bit t.needEndpoint + 8 * bit t.waitDoses + 16 * bit t.condInsitu
    ∃ q, parseStep (p1 h.val ++ p2 t.label ++ p1 (t.platen.val + 1) ++ p1 flags ++ p4 t.timeLimit ++ p2 t.rampTime
          ++ many p2 t.targets.toList ++ p1 (optCode (t.line.map (·.val))) ++ p1 t.purpose ++ p2 t.rate ++ p2 t.lead
          ++ p1 (optCode (t.watch.map (·.val))) ++ p2 t.overpolish) = some q
      ∧ q.head = h.val ∧ q.platen = t.platen.val + 1 ∧ q.flags = flags ∧ q.step t.platen = t

/-- HEAD-START is refused in the order of its checks. Otherwise the oldest step becomes current, and the head stands in ARMED with its
barrier snapshot when the step awaits an index, or when its station matches and its platen is not in POLISHING or its snapshot is not
empty; on another station it halts with WRONG-STATION. With nothing to wait for it goes to work at once: to PRESSING for a step without
a line and a watch, to SLURRY-WAIT with a dose on its first IDLE record for a step with a line. -/
def Obligations.HeadStartTakesTheOldestStep : Prop :=
  (∀ (s : State) (tag : Byte), s.isOpen = true →
     (∀ b : Byte, 4 ≤ b.toNat → exec (.headStart tag [b]) s = .next (s.replied 0x11 tag (.refuse .badValue)))
     ∧ ∀ h : HeadIx,
       let d := s.heads[h.val]
       (s.stop = true → exec (.headStart tag [b1 h.val]) s = .next (s.replied 0x11 tag (.refuse .stopped)))
       ∧ (s.stop = false → d.state ≠ .idle ∨ d.steps = [] →
           exec (.headStart tag [b1 h.val]) s = .next (s.replied 0x11 tag (.refuse .wrongState)))
       ∧ (s.stop = false → d.state = .idle → d.steps ≠ [] → s.car.state ≠ .idle →
           exec (.headStart tag [b1 h.val]) s = .next (s.replied 0x11 tag (.refuse .indexing)))
       ∧ ∀ t rest, s.stop = false → d.state = .idle → d.steps = t :: rest → s.car.state = .idle →
           let snapshot := if t.waitDoses then s.barrier t.platen else []
           (t.awaitIndex = true ∨ (s.station h = t.platen.val + 1 ∧ (s.platens[t.platen.val].mode ≠ .polishing ∨ snapshot ≠ [])) →
             exec (.headStart tag [b1 h.val]) s = .next ((s.modHead h fun d =>
               { d with state := .armed, current := true, indexMark := t.awaitIndex, marginLimited := false, endpoint := none,
                        snapshot := snapshot }).replied 0x11 tag (.ok [])))
           ∧ (t.awaitIndex = false → s.station h ≠ t.platen.val + 1 → s.heads[h.val].WellKept →
             ∃ u, exec (.headStart tag [b1 h.val]) s = .next u ∧ s.EntersHalted u h .wrongStation ∧ u.heads[h.val].steps = rest))
  ∧ (∀ (s : State) (tag : Byte) (h : HeadIx) (t : Step) (rest : List Step), s.isOpen = true → s.stop = false →
      s.heads[h.val].state = .idle → s.heads[h.val].steps = t :: rest → s.car.state = .idle → t.awaitIndex = false →
      s.station h = t.platen.val + 1 → s.platens[t.platen.val].mode = .polishing →
      (t.waitDoses = true → s.barrier t.platen = []) →
      (t.line = none → t.watch = none →
        ∃ u, exec (.headStart tag [b1 h.val]) s = .next u ∧ u.now = s.now ∧ s.EntersPressing u h ∧ u.heads[h.val].current = true)
      ∧ ∀ l r, t.line = some l → s.idleRecord h = some r → s.lineChecks l t.platen t.rate = none →
          ∃ u, exec (.headStart tag [b1 h.val]) s = .next u ∧ u.heads[h.val].state = .slurryWait ∧ u.heads[h.val].dose = some r
            ∧ u.counter = nextSequence s.counter ∧ u.recs[r.val].sequence = u.counter ∧ u.recs[r.val].label = t.label
            ∧ u.recs[r.val].platen = some t.platen ∧ u.recs[r.val].line = l ∧ u.recs[r.val].segments = [⟨t.rate, none⟩]
            ∧ u.recs[r.val].cap = none ∧ u.recs[r.val].policy = .silent
            ∧ u.recs[r.val].cls = s.platens[t.platen.val].config.classFor t.purpose
            ∧ (u.recs[r.val].state = .queued ∨ u.recs[r.val].state = .opening)
            ∧ (∀ k : HeadIx, k ≠ h → u.heads[k.val] = s.heads[k.val]) ∧ u.free = s.free)

/-- HEAD-HALT is accepted in every state. A head not HALTED enters HALTED with reason HOST, its step's STEP-END standing before its
HEAD-HALTED; a HALTED head is not changed. A second STEP-END with reason HALTED carries the time in STARVED and no endpoint time (log entry
28). A carousel in PENDING goes to LIFTING when the halt makes the last head index-ready. HEAD-RESUME is refused with STOPPED under STOP and
with WRONG-STATE outside HALTED; otherwise the head is IDLE with its reason cleared, and a carousel in PENDING goes to LIFTING when that
makes every head index-ready. -/
def Obligations.HeadHaltStopsAndResumeReturns : Prop :=
  (∀ (s : State) (tag : Byte), s.isOpen = true →
     (∀ b : Byte, 4 ≤ b.toNat → exec (.headHalt tag [b]) s = .next (s.replied 0x12 tag (.refuse .badValue)))
     ∧ ∀ h : HeadIx,
       let d := s.heads[h.val]
       (d.state = .halted → exec (.headHalt tag [b1 h.val]) s = .next (s.replied 0x12 tag (.ok [])))
       ∧ (d.state ≠ .halted → d.WellKept →
           ∃ u, exec (.headHalt tag [b1 h.val]) s = .next u ∧ s.EntersHalted u h .host ∧ u.now = s.now ∧ s.LiftsWhenReady u
             ∧ u.heads[h.val].steps = (if d.current then d.steps.tail else d.steps)
             ∧ (s.link.tx.isSome = true → s.link.notices.length + 2 ≤ 32 →
                 u.link.notices = s.link.notices ++
                   (match d.step, d.held with
                    | some t, none => [.stepEnd h t.label .halted (d.clock s.now) d.marginLimited d.endpoint]
                    | _, some t => [.stepEnd h t.label .halted (s.now - d.entered) d.marginLimited none]
                    | none, none => [])
                   ++ [.headHalted h .host none none])))
  ∧ (∀ (s : State) (tag : Byte), s.isOpen = true →
      (∀ b : Byte, 4 ≤ b.toNat → exec (.headResume tag [b]) s = .next (s.replied 0x13 tag (.refuse .badValue)))
      ∧ ∀ h : HeadIx,
        (s.stop = true → exec (.headResume tag [b1 h.val]) s = .next (s.replied 0x13 tag (.refuse .stopped)))
        ∧ (s.stop = false → s.heads[h.val].state ≠ .halted →
            exec (.headResume tag [b1 h.val]) s = .next (s.replied 0x13 tag (.refuse .wrongState)))
        ∧ (s.stop = false → s.heads[h.val].state = .halted →
            let u := s.modHead h fun d => { d with state := .idle, haltReason := none, snapshot := [] }
            (s.car.state ≠ .pending ∨ u.allReady = false →
              exec (.headResume tag [b1 h.val]) s = .next (u.replied 0x13 tag (.ok [])))
            ∧ (s.car.state = .pending → u.allReady = true →
              ∃ v, exec (.headResume tag [b1 h.val]) s = .next v ∧ v.heads = u.heads ∧ v.car.state = .lifting
                ∧ v.car.liftStart = s.now ∧ v.car.lifted = false)))

/-- HEAD-FLUSH is accepted in every state, empties both slots, reports how many steps it discarded without a STEP-END, and takes the head by
its state to where it works on nothing. A carousel in PENDING goes to LIFTING when a head flushed to IDLE was the last not index-ready. -/
def Obligations.HeadFlushEmptiesTheSlots : Prop :=
  ∀ (s : State) (tag : Byte), s.isOpen = true →
    (∀ b : Byte, 4 ≤ b.toNat → exec (.headFlush tag [b]) s = .next (s.replied 0x14 tag (.refuse .badValue)))
    ∧ ∀ h : HeadIx, s.heads[h.val].WellKept →
      let d := s.heads[h.val]
      let n := if d.current then d.steps.length - 1 else d.steps.length
      ∃ u, exec (.headFlush tag [b1 h.val]) s = .next u ∧ u.heads[h.val].steps = [] ∧ u.heads[h.val].current = false
        ∧ (∀ k : HeadIx, k ≠ h → u.heads[k.val] = s.heads[k.val])
        ∧ (s.link.tx.isSome = true → u.link.replies = s.link.replies ++ [⟨0x94, tag, [0, 0, b1 n]⟩])
        ∧ (u.heads[h.val].state = match d.state with
            | .idle => .idle
            | .halted => .halted
            | .armed | .slurryWait => .idle
            | .wetting | .pressing | .overpolish | .starved | .releasing => .releasing)
        ∧ (d.state = .armed ∨ d.state = .slurryWait → s.LiftsWhenReady u)
        ∧ (d.state ≠ .armed → d.state ≠ .slurryWait → u.car = s.car)
        ∧ (d.state = .wetting ∨ d.state = .pressing ∨ d.state = .overpolish ∨ d.state = .starved → s.EntersReleasing u h)
        ∧ (s.link.tx.isSome = true → s.link.notices.length < 32 →
            u.link.notices = s.link.notices ++
              (match d.step, d.held with
               | some t, none => [.stepEnd h t.label .flushed (d.clock s.now) d.marginLimited d.endpoint]
               | _, some t => [.stepEnd h t.label .flushed (s.now - d.entered) d.marginLimited none]
               | none, none => []))

/-- HEAD-STANDBY and HEAD-LIMITS are taken at rest alone and in one piece; TRIM-SET in every state, each trim clamped to −1000 to 1000 with
the clamped flag set if one was. HEAD-STANDBY puts the zones at once in the standby pattern: VENT vents all five, CHUCK vents RING and holds
Z1 to Z4 by vacuum; a zone that comes to VENT begins an auto-zero window, one that leaves it abandons its own. The vent valve is open in
VENT alone, the vacuum valve in VACUUM alone, and the regulator has its code in PRESSURE alone. -/
def Obligations.HeadSettingsReplaceTheirFields : Prop :=
  (∀ (m : Standby) (z : ZoneIx), m.mode z = if m = .chuck ∧ z ≠ 0 then .vacuum else .vent)
  ∧ (∀ z : Zone, (z.ventOpen = true ↔ z.mode = .vent) ∧ (z.vacuumOpen = true ↔ z.mode = .vacuum)
      ∧ z.regulator = if z.mode = .pressure then z.code else 0)
  ∧ ∀ (s : State) (tag : Byte), s.isOpen = true →
    (∀ a b : Byte, 4 ≤ a.toNat ∨ 2 ≤ b.toNat →
      exec (.headStandby tag [a, b]) s = .next (s.replied 0x15 tag (.refuse .badValue)))
    ∧ (∀ (h : HeadIx) (m : Standby),
      let rest := s.heads[h.val].state = .idle ∨ s.heads[h.val].state = .halted
      (¬ rest → exec (.headStandby tag [b1 h.val, b1 m.code]) s = .next (s.replied 0x15 tag (.refuse .wrongState)))
      ∧ (rest → exec (.headStandby tag [b1 h.val, b1 m.code]) s = .next
          ((s.modHead h fun d => ({ d with standby := m }).mapZones fun (z : ZoneIx) (c : Zone) =>
            { c with
              mode := m.mode z
              window := if m.mode z = ZoneMode.vent then (if c.mode = ZoneMode.vent then c.window else some ⟨s.now, s.sourceValue (.pressure h z)⟩)
                else none }).replied 0x15 tag (.ok []))))
    ∧ (∀ body (q : TrimBody), parseTrim body = some q →
      (4 ≤ q.head → exec (.trimSet tag body) s = .next (s.replied 0x16 tag (.refuse .badValue)))
      ∧ ∀ h : HeadIx, q.head = h.val →
        exec (.trimSet tag body) s = .next
          ((s.modHead h fun d => d.mapZones fun z c => { c with trim := max (-1000) (min 1000 q.trims[z.val]) }).replied 0x16 tag
            ⟨.ok, !decide (∀ z : ZoneIx, -1000 ≤ q.trims[z.val] ∧ q.trims[z.val] ≤ 1000), false, []⟩))
    ∧ ∀ body k (m : HeadLimits), parseLimits body = some (k, m) →
      let ok := m.ringMargin ≤ 3000 ∧ 50 ≤ m.deviationTolerance ∧ m.deviationTolerance ≤ 2000 ∧ 100 ≤ m.deviationTime
        ∧ m.deviationTime ≤ 5000 ∧ m.settleTime ≤ 2000 ∧ m.starveLimit ≤ 10000 ∧ 100 ≤ m.releaseTime ∧ m.releaseTime ≤ 5000
        ∧ m.captureBand ≤ 500 ∧ m.motionBand ≤ 200 ∧ m.apertureBand ≤ 2000
      (4 ≤ k ∨ ¬ ok → exec (.headLimits tag body) s = .next (s.replied 0x17 tag (.refuse .badValue)))
      ∧ ∀ h : HeadIx, k = h.val → ok →
        let rest := s.heads[h.val].state = .idle ∨ s.heads[h.val].state = .halted
        (¬ rest → exec (.headLimits tag body) s = .next (s.replied 0x17 tag (.refuse .wrongState)))
        ∧ (rest →
          exec (.headLimits tag body) s = .next ((s.modHead h fun d => { d with limits := m }).replied 0x17 tag (.ok [])))

/-- The lead time of WETTING expires at the entry to the state plus the lead time: the head enters PRESSING. A watch that is UNDEFINED or
bound to another head halts it there; a watch that is free is bound and armed. A step with COND-INSITU then makes the head a holder of its
platen's conditioner, which lowers where it was STOWED and held by nobody. The clock stands at the moment of the expiry (log entry 1). -/
def Obligations.LeadTimeExpiryEntersPressing : Prop :=
  ∀ (s : State) (h : HeadIx) (t : Step), s.running = true → s.heads[h.val].WellKept → s.heads[h.val].state = .wetting →
    s.heads[h.val].step = some t →
    ∃ u, exec (.leadTimeExpiry h) s = .next u ∧ u.now = max s.now (s.heads[h.val].entered + t.lead)
      ∧ (∀ k : HeadIx, k ≠ h → u.heads[k.val] = s.heads[k.val])
      ∧ (let held := s.modCond t.platen fun c =>
           if c.arm = .stowed ∧ c.host = none ∧ c.head = none then
             { c with head := some h, arm := .lowering, entered := u.now, sweeps := 0, learned := 0, endReason := none, segment := 0,
                      inward := false }
           else { c with head := some h }
         u.heads[h.val].state = .pressing → u.conds = if t.condInsitu then held.conds else s.conds)
      ∧ (t.watch = none → s.EntersPressing u h)
      ∧ ∀ w, t.watch = some w →
        (s.watches[w.val].state = .undefined → s.EntersHalted u h .watchMissing)
        ∧ (∀ k, s.watches[w.val].state ≠ .undefined → s.watches[w.val].bound = some k → k ≠ h → s.EntersHalted u h .watchBusy)
        ∧ (s.watches[w.val].state ≠ .undefined → s.watches[w.val].bound = none →
            s.EntersPressing u h ∧ u.watches[w.val].bound = some h ∧ u.watches[w.val].history = []
            ∧ u.watches[w.val].prevAvg = none ∧ u.watches[w.val].crossed = false ∧ u.watches[w.val].blankStart = u.now
            ∧ u.watches[w.val].state = if s.watches[w.val].defn.blank = 0 then .watching else .blanking)

/-- The time limit of PRESSING ends the step with TIME or TIME-LIMIT and the overpolish time with ENDPOINT, each in a STEP-END that carries
the endpoint recorded, and the succession follows; a step that needs its endpoint halts the head with NO-ENDPOINT instead. The starve limit
ends the hold with the second STEP-END and releases the head; the release time sets the zones to standby at command 0 and the head to IDLE,
or to ARMED for the step that is current. A carousel in PENDING goes to LIFTING when a head so come to rest is the last to be index-ready.
The clock stands at the moment of the expiry (log entry 1). -/
def Obligations.StepTimersEndTheirStates : Prop :=
  (∀ (s : State) (h : HeadIx) (t : Step), s.running = true → s.heads[h.val].WellKept → s.heads[h.val].step = some t →
     let d := s.heads[h.val]
     (d.state = .pressing →
       let now := max s.now (d.pressStart + t.timeLimit)
       ∃ u, exec (.stepTimeLimit h) s = .next u ∧ u.now = now
         ∧ (t.watch.isSome = true → t.needEndpoint = true → s.EntersHalted u h .noEndpoint ∧ s.LiftsWhenReady u)
         ∧ (t.watch = none ∨ t.needEndpoint = false →
             s.Succession u h t d.steps.tail
             ∧ (s.link.tx.isSome = true → s.link.notices.length < 32 → d.steps.tail ≠ [] ∨ t.chain = false ∨ d.limits.starveLimit ≠ 0 →
                 (∀ next, d.steps.tail.head? = some next → s.Bindable h next) →
                 u.link.notices = s.link.notices ++
                   [.stepEnd h t.label (if t.watch = none then .time else .timeLimit) (now - d.pressStart) d.marginLimited
                     d.endpoint])))
     ∧ (d.state = .overpolish →
         let now := max s.now (d.entered + t.overpolish)
         ∃ u, exec (.overpolishExpiry h) s = .next u ∧ u.now = now ∧ s.Succession u h t d.steps.tail
           ∧ (s.link.tx.isSome = true → s.link.notices.length < 32 → d.steps.tail ≠ [] ∨ t.chain = false ∨ d.limits.starveLimit ≠ 0 →
               (∀ next, d.steps.tail.head? = some next → s.Bindable h next) →
               u.link.notices = s.link.notices ++ [.stepEnd h t.label .endpoint (now - d.pressStart) d.marginLimited d.endpoint])))
  ∧ (∀ (s : State) (h : HeadIx), s.running = true → s.heads[h.val].WellKept →
      let d := s.heads[h.val]
      (∀ t, d.state = .starved → d.held = some t →
        ∃ u, exec (.starveLimitExpiry h) s = .next u ∧ u.now = max s.now (d.entered + d.limits.starveLimit)
          ∧ s.EntersReleasing u h ∧ u.heads[h.val].held = none
          ∧ (s.link.tx.isSome = true → s.link.notices.length < 32 →
              u.link.notices = s.link.notices ++ [.stepEnd h t.label .starved (u.now - d.entered) d.marginLimited none]))
      ∧ (d.state = .releasing →
        ∃ u, exec (.releaseTimeExpiry h) s = .next u ∧ u.now = max s.now (d.entered + d.limits.releaseTime) ∧ s.LiftsWhenReady u
          ∧ (d.current = false → u.heads[h.val].state = .idle)
          ∧ (∀ t rest, d.current = true → d.steps = t :: rest →
              d.indexMark = true ∨ (s.station h = t.platen.val + 1 ∧ s.platens[t.platen.val].mode ≠ .polishing) →
              u.heads[h.val].state = .armed ∧ u.heads[h.val].snapshot = if t.waitDoses then s.barrier t.platen else [])
          ∧ (d.current = false ∨ d.indexMark = true →
              u.heads[h.val].updateDue = none
              ∧ ∀ z : ZoneIx, u.heads[h.val].zones[z.val].command = 0 ∧ u.heads[h.val].zones[z.val].mode = d.standby.mode z)))

/-- The law of work: a head that works stands at its step's platen, that platen is in POLISHING, STOP is released and its dose flows. With
it, a conditioner's head holder and a bound watch always belong to a head that presses on the step that asks for them. -/
def Obligations.LawOfWorkIsKept : Prop :=
  ∀ s t : State, s.Safe → step s = .next t → t.WorkLaw ∧ (s.HoldersWork → t.HoldersWork)

/-! ### Zones -/

/-- Stage 5 puts each command on the line of its calibration, rounded to nearest and clamped to 0 to 4095, for every zone at every
computation; the code reaches the regulator in PRESSURE alone. -/
def Obligations.RegulatorCodeFollowsTheCalibration : Prop :=
  (∀ (c : ZoneCal) (p : Nat), c.pLo < c.pHi →
    ∃ q, IsNearest (((p : Int) - c.pLo) * ((c.cHi : Int) - c.cLo)) (c.pHi - c.pLo) q
      ∧ (c.codeOf p : Int) = max 0 (min 4095 (c.cLo + q)))
  ∧ (∀ (d : Head) (now : Nat) (z : ZoneIx),
      (d.compute now).zones[z.val].code = d.zones[z.val].cal.codeOf ((d.compute now).zones[z.val].command))
  ∧ ∀ z : Zone, z.regulator = if z.mode = .pressure then z.code else 0

/-- A raw code is scaled along its calibration, rounded to nearest and clamped to 32 bits; a zone's processed value is its scaled value less
the present offset, every other channel's is its scaled value, and every source without a channel gives the present value of the block that
owns it. -/
def Obligations.InputScalingIsExactAndClamped : Prop :=
  (∀ (c : InputCal) (raw : Nat), c.rawLo < c.rawHi →
    ∃ q, IsNearest (((raw : Int) - c.rawLo) * (c.vHi - c.vLo)) (c.rawHi - c.rawLo) q
      ∧ c.scale raw = max (-2147483648) (min 2147483647 (c.vLo + q)))
  ∧ (∀ (s : State) (h : HeadIx) (z : ZoneIx), s.sourceValue (.pressure h z)
      = max (-2147483648) (min 2147483647 (s.hub.channels[5 * h.val + z.val].scaled - s.heads[h.val].zones[z.val].offset)))
  ∧ (∀ (s : State) (p : PlatenIx), s.sourceValue (.friction p) = s.hub.channels[20 + p.val].scaled
      ∧ s.sourceValue (.reflectance p) = s.hub.channels[23 + p.val].scaled
      ∧ s.sourceValue (.torque p) = s.hub.channels[26 + p.val].scaled)
  ∧ (∀ (s : State) (l : LineIx), s.sourceValue (.flow l) = s.hub.channels[29 + l.val].scaled
      ∧ s.sourceValue (.lineReservation l) = s.lines[l.val].reservation)
  ∧ ∀ s : State, s.sourceValue .constant = 0
      ∧ (∀ (h : HeadIx) (z : ZoneIx), s.sourceValue (.command h z) = s.heads[h.val].zones[z.val].command)
      ∧ (∀ p : PlatenIx, s.sourceValue (.platenReservation p) = s.platens[p.val].reservation
          ∧ s.sourceValue (.padLife p) = min 2147483647 s.wears[p.val].life)
      ∧ (∀ i : LatchIx, s.sourceValue (.latch i) = s.latches[i.val].value)
      ∧ ∀ h : HeadIx, s.sourceValue (.stepClock h) = match s.heads[h.val].state with
          | .pressing | .overpolish => (s.now - s.heads[h.val].pressStart : Nat)
          | .starved => (s.heads[h.val].frozenClock : Int)
          | _ => 0

/-- Stage 1 stays between start and target and reaches the target at the ramp time; stage 4 follows its three cases, keeps RING above Z4
by the margin, never raises Z4 and never lowers RING. -/
def Obligations.RampAndRingMarginKeepTheirBounds : Prop :=
  (∀ (start target : Int) (time elapsed : Nat),
    (time ≤ elapsed → rampValue start target time elapsed = target)
    ∧ (elapsed < time → rampValue start target time elapsed = start + ((target - start) * elapsed).tdiv time)
    ∧ min start target ≤ rampValue start target time elapsed ∧ rampValue start target time elapsed ≤ max start target
    ∧ (∀ later, elapsed ≤ later → start ≤ target → rampValue start target time elapsed ≤ rampValue start target time later))
  ∧ ∀ m r z : Int, 0 ≤ m → m ≤ 3000 → 0 ≤ r → r ≤ 8000 → 0 ≤ z → z ≤ 6000 →
      let k := ringMargin m r z
      (z + m ≤ r → k = (r, z, false)) ∧ (r < z + m → z + m ≤ 8000 → k = (z + m, z, true))
      ∧ (8000 < z + m → k = (8000, 8000 - m, true))
      ∧ k.2.1 + m ≤ k.1 ∧ r ≤ k.1 ∧ k.1 ≤ 8000 ∧ k.2.1 ≤ z ∧ 0 ≤ k.2.1 ∧ (k.2.2 = true → 2000 < m ∨ k.2.1 = z)

/-- At each expiry of a head's update timer in PRESSING, OVERPOLISH, STARVED or RELEASING its five commands are the stages applied to the
elapsed time: ramp, trim (not in RELEASING), clamp and margin, each command giving its code; the timer is set 10 ms on. Outside a ramp a
change of trims starts a settle period; nothing else of the head moves, and nothing else of the part. The end of the ramp begins the settle
period, whose expiry begins the testing; with a settle time of 0 the testing begins or goes on at once (log entry 24). The clock stands at
the moment of the expiry (log entry 1). -/
def Obligations.UpdateTimerComputesTheCommands : Prop :=
  ∀ (s : State) (h : HeadIx), s.running = true →
    let d := s.heads[h.val]
    (∀ due t, d.updateDue = some due → d.workStep = some t → d.limits.ringMargin ≤ 3000 →
      d.state.isPressing = true ∨ d.state = .starved →
      ∃ e, exec (.headUpdateTimer h) s = .next ((s.reach due).modHead h fun _ => e)
        ∧ e.updateDue = some (due + 10) ∧ e.state = d.state ∧ e.steps = d.steps ∧ e.pressStart = d.pressStart
        ∧ (let now := max s.now due
           let v : ZoneIx → Int := fun z => max 0 (min (if z = 0 then 8000 else 6000)
             ((if d.state = .starved then d.zones[z.val].ramp
               else rampValue d.zones[z.val].rampStart t.targets[z.val] t.rampTime (now - d.pressStart)) + d.zones[z.val].trim))
           let k := ringMargin d.limits.ringMargin (v 0) (v 4)
           (∀ z : ZoneIx, (e.zones[z.val].command : Int) = if z = 0 then k.1 else if z = 4 then k.2.1 else v z)
           ∧ e.marginActive = k.2.2 ∧ e.marginLimited = (d.marginLimited || k.2.2)
           ∧ (∀ z : ZoneIx, e.zones[z.val].rampStart = d.zones[z.val].rampStart ∧ e.zones[z.val].mode = d.zones[z.val].mode
               ∧ e.zones[z.val].trim = d.zones[z.val].trim ∧ e.zones[z.val].offset = d.zones[z.val].offset)
           ∧ (let computed : Head := { d.mapZones fun z c =>
                { c with ramp := e.zones[z.val].ramp, command := e.zones[z.val].command, code := c.cal.codeOf e.zones[z.val].command,
                         lastTrim := c.trim } with
                marginActive := k.2.2, marginLimited := d.marginLimited || k.2.2, updateDue := some (due + 10) }
              let changed := ∃ z : ZoneIx, d.zones[z.val].trim ≠ d.zones[z.val].lastTrim
              (¬ changed ∨ d.supervision = .ramping → e = computed)
              ∧ (changed → d.supervision ≠ .ramping → d.limits.settleTime = 0 → e = { computed with supervision := .testing })
              ∧ (changed → d.supervision ≠ .ramping → d.limits.settleTime ≠ 0 →
                  e = { computed.mapZones (fun _ c => { c with deviating := none }) with supervision := .settling now }))))
    ∧ (∀ due, d.updateDue = some due → d.state = .releasing → d.limits.ringMargin ≤ 3000 →
      ∃ e, exec (.headUpdateTimer h) s = .next ((s.reach due).modHead h fun _ => e) ∧ e.updateDue = some (due + 10)
        ∧ (let now := max s.now due
           let v : ZoneIx → Int := fun z => max 0 (min (if z = 0 then 8000 else 6000)
             (rampValue d.zones[z.val].rampStart 0 d.limits.releaseTime (now - d.entered)))
           let k := ringMargin d.limits.ringMargin (v 0) (v 4)
           (∀ z : ZoneIx, (e.zones[z.val].command : Int) = if z = 0 then k.1 else if z = 4 then k.2.1 else v z)
           ∧ e = { d.mapZones fun z c =>
               { c with ramp := e.zones[z.val].ramp, command := e.zones[z.val].command, code := c.cal.codeOf e.zones[z.val].command } with
               marginActive := k.2.2, marginLimited := d.marginLimited || (k.2.2 && d.step.isSome), updateDue := some (due + 10) }))
    ∧ (d.updateDue = none → exec (.headUpdateTimer h) s = .next s)
    ∧ (∀ t, d.supervision = .ramping → d.step = some t →
        let now := max s.now (d.pressStart + t.rampTime)
        (d.limits.settleTime = 0 →
          exec (.rampEnd h) s = .next ((s.reach (d.pressStart + t.rampTime)).modHead h fun d => { d with supervision := .testing }))
        ∧ (d.limits.settleTime ≠ 0 →
          exec (.rampEnd h) s = .next ((s.reach (d.pressStart + t.rampTime)).modHead h fun d =>
            { d.mapZones (fun _ z => { z with deviating := none }) with supervision := .settling now })))
    ∧ ∀ since, d.supervision = .settling since →
        exec (.settleTimeExpiry h) s = .next ((s.reach (since + d.limits.settleTime)).modHead h fun d =>
          { d with supervision := .testing })

/-- The end of an auto-zero window corrects the offset when the reading, its change and the corrected offset lie within the three bands,
sets ZERO-DRIFT otherwise, and begins the next window on the reading the new offset gives. ZONE-CAL replaces a zone's calibration. The clock
stands at the end of the window (log entry 1). -/
def Obligations.WindowEndCorrectsOrFlagsTheZone : Prop :=
  (∀ (s : State) (h : HeadIx) (z : ZoneIx) (w : Window), s.running = true → s.heads[h.val].zones[z.val].window = some w →
    let c := s.heads[h.val].zones[z.val]
    let m := s.heads[h.val].limits
    let now := max s.now (w.start + 1000)
    let scaled := s.hub.channels[5 * h.val + z.val].scaled
    let r := max (-2147483648) (min 2147483647 (scaled - c.offset))
    let fits := r.natAbs ≤ m.captureBand ∧ (r - w.value).natAbs ≤ m.motionBand ∧ (c.offset + r).natAbs ≤ m.apertureBand
    (fits → exec (.autoZeroWindowEnd h z) s = .next ((s.reach (w.start + 1000)).modHead h fun d => d.modZone z fun c =>
      { c with offset := c.offset + r,
               window := some ⟨now, max (-2147483648) (min 2147483647 (scaled - (c.offset + r)))⟩ }))
    ∧ (¬ fits → exec (.autoZeroWindowEnd h z) s = .next ((s.reach (w.start + 1000)).modHead h fun d => d.modZone z fun c =>
      { c with drift := true, window := some ⟨now, r⟩ })))
  ∧ ∀ (s : State) (tag : Byte) (body : List Byte) (q : ZoneCalBody), s.isOpen = true → parseZoneCal body = some q →
      let ok := q.cal.pLo ≤ 8000 ∧ q.cal.pHi ≤ 8000 ∧ q.cal.cLo ≤ 4095 ∧ q.cal.cHi ≤ 4095 ∧ q.cal.pLo < q.cal.pHi
      (4 ≤ q.head ∨ 5 ≤ q.zone ∨ ¬ ok → exec (.zoneCal tag body) s = .next (s.replied 0x19 tag (.refuse .badValue)))
      ∧ ∀ (h : HeadIx) (z : ZoneIx), q.head = h.val → q.zone = z.val → ok →
          let old := s.heads[h.val].zones[z.val].cal
          exec (.zoneCal tag body) s = .next ((s.modHead h fun d => d.modZone z fun c => { c with cal := q.cal }).replied 0x19 tag
            (.ok (p2 old.pLo ++ p2 old.cLo ++ p2 old.pHi ++ p2 old.cHi)))

/-- The law of command range: every RING command stays in 0 to 8000 and every other command in 0 to 6000. -/
def Obligations.CommandRangeIsKept : Prop :=
  ∀ s t : State, s.CommandsInRange → step s = .next t → t.CommandsInRange

/-- The law of margin: while the stages apply, RING stays above Z4 by the ring margin, which no command can put out of its range. It rests on
a head's slots agreeing with its state: a head releases into ARMED or IDLE alone. -/
def Obligations.LawOfMarginIsKept : Prop :=
  ∀ s t : State, s.MarginLaw → s.HeadsWellKept → step s = .next t → t.MarginLaw

/-! ### Platens -/

/-- PLATEN-MODE changes the mode at once in every state of the part, and replies with the mode before, the doses closed and the heads
halted. A demotion halts every head that works for the platen, with PLATEN-MODE, empties the conditioner whose permission is gone, and
closes each OPENING or FLOWING dose of the platen that the new mode does not permit and no halted head gave up; no other head and no other
mode moves. A promotion to POLISHING takes the heads that waited for it in ARMED to work (R54), with LINE-OFFLINE where the line no longer
takes the dose (R8). PLATEN-CONFIG replaces the platen's three items together unless its limit lies below the present reservation, replies
with that reservation, as it was before the round (log entry 29); no head, conditioner or mode moves. Each is followed by the platen's
round: one attempt of every line, or after a PLATEN-CONFIG of every line that holds a queued dose for the platen, from the next-line pointer
on; no line in service is left with a dose it could admit. -/
def Obligations.PlatenRequestsActAtOnce : Prop :=
  (∀ (s : State) (tag : Byte), s.isOpen = true →
     (∀ a b : Byte, a.toNat = 0 ∨ 3 < a.toNat ∨ 4 < b.toNat →
       exec (.platenMode tag [a, b]) s = .next (s.replied 0x20 tag (.refuse .badValue)))
     ∧ ∀ (p : PlatenIx) (m : Mode),
       let before := s.platens[p.val].mode
       let stops := (List.finRange 4).filter fun h : HeadIx => s.heads[h.val].demotedWith p
       let closes := (List.finRange 64).filter fun r : RecIx =>
         s.recs[r.val].state.live && s.recs[r.val].platen == some p && !(2 ≤ m.code || (m.code == 1 && s.recs[r.val].service))
           && !stops.any fun h => s.heads[h.val].dose == some r
       let waits := fun (h : HeadIx) (t : Step) => s.heads[h.val].state = .armed ∧ s.heads[h.val].indexMark = false
         ∧ s.heads[h.val].snapshot = [] ∧ s.heads[h.val].step = some t ∧ t.platen = p
       (m = before → exec (.platenMode tag [b1 (p.val + 1), b1 m.code]) s
           = .next (s.replied 0x20 tag (.ok [b1 before.code, 0, 0])))
       ∧ (m ≠ before → ∃ u, exec (.platenMode tag [b1 (p.val + 1), b1 m.code]) s = .next u
           ∧ u.platens[p.val].mode = m ∧ u.platens[p.val].config = s.platens[p.val].config
           ∧ (∀ k : PlatenIx, k ≠ p → u.platens[k.val].mode = s.platens[k.val].mode)
           ∧ (s.stop = false → s.PoolWellKept → ∀ l : LineIx, s.lines[l.val].state = .ready ∨ s.lines[l.val].state = .priming →
               (∀ c : ClassIx, 0 < s.lines[l.val].config.weights[c.val]) → u.Exhausted l)
           ∧ (m.code < before.code →
               (s.link.tx.isSome = true → s.PoolWellKept →
                 u.link.replies = s.link.replies ++ [⟨0xA0, tag, [0, 0, b1 before.code, b1 closes.length, b1 stops.length]⟩])
               ∧ (∀ h ∈ stops, u.heads[h.val].state = .halted ∧ u.heads[h.val].haltReason = some .platenMode)
               ∧ (∀ h : HeadIx, h ∉ stops → (∀ r, s.heads[h.val].dose = some r → s.recs[r.val].platen ≠ some p) →
                   u.heads[h.val] = s.heads[h.val])
               ∧ (s.PoolWellKept → ∀ r ∈ closes, u.recs[r.val].state = .closing ∧ u.recs[r.val].reason = some .platenMode)
               ∧ (m.code < 3 → u.conds[p.val].unheld = true ∧ u.conds[p.val].down = false)
               ∧ (s.DoseLaw → ∀ r : RecIx, u.recs[r.val].state.live = true → u.recs[r.val].platen = some p →
                   2 ≤ m.code ∨ (m.code = 1 ∧ u.recs[r.val].service = true)))
           ∧ (before.code < m.code →
               (s.link.tx.isSome = true → u.link.replies = s.link.replies ++ [⟨0xA0, tag, [0, 0, b1 before.code, 0, 0]⟩])
               ∧ (m ≠ .polishing → u.heads = s.heads ∧ u.conds = s.conds
                   ∧ (let v := s.modPlaten p fun c => { c with mode := m }
                      let n := s.platens[p.val].nextLine
                      u = ((((v.attempt n).attempt (n + 1)).attempt (n + 2)).attempt (n + 3)).replied 0x20 tag
                        (.ok [b1 before.code, 0, 0])))
               ∧ ∀ h : HeadIx, ((∀ t, ¬ waits h t) → u.heads[h.val] = s.heads[h.val])
                 ∧ ∀ t, waits h t → m = .polishing → s.PoolWellKept → s.LeavesArmed u h t)))
  ∧ (∀ (s : State) (tag : Byte) (body : List Byte) (q : PlatenConfigBody), s.isOpen = true → parsePlatenConfig body = some q →
      let ok := 50 ≤ q.flowLimit ∧ q.flowLimit ≤ 1200 ∧ q.ceiling ≤ 3 ∧ ∀ i : Fin 8, q.classes[i.val] ≤ 3
      (q.platen = 0 ∨ 3 < q.platen ∨ ¬ ok → exec (.platenConfig tag body) s = .next (s.replied 0x21 tag (.refuse .badValue)))
      ∧ ∀ (p : PlatenIx) (c : PlatenConfig), q.platen = p.val + 1 → ok → c.flowLimit = q.flowLimit → c.ceiling.val = q.ceiling →
        (∀ i : Fin 8, c.classes[i.val].val = q.classes[i.val]) →
        let k := s.platens[p.val].reservation
        (c.flowLimit < k → exec (.platenConfig tag body) s = .next (s.replied 0x21 tag (.refuse .inUse)))
        ∧ (k ≤ c.flowLimit →
            let v := s.modPlaten p fun n => { n with config := c }
            let asks := fun (l : LineIx) (u : State) =>
              if ∃ j : ClassIx, ∃ x ∈ u.lines[l.val].queues[j.val], u.recs[x.val].platen = some p then u.attempt l else u
            let n := s.platens[p.val].nextLine
            let t := asks (n + 3) (asks (n + 2) (asks (n + 1) (asks n v)))
            exec (.platenConfig tag body) s = .next (t.replied 0x21 tag (.ok (p2 k)))
            ∧ t = { s with recs := t.recs, lines := t.lines, platens := t.platens }
            ∧ t.platens[p.val].config = c ∧ (∀ j : PlatenIx, j ≠ p → t.platens[j.val].config = s.platens[j.val].config)
            ∧ t.platens.map Platen.mode = s.platens.map Platen.mode
            ∧ (s.PoolWellKept → s.OnlyOpens t)
            ∧ (s.stop = true → t.recs = s.recs)))

/-! ### Doses -/

/-- DOSE-SUBMIT makes its six checks in order and changes nothing when one fails. Accepted, it takes the record at the head of the free
list, fills it with every field of the request, the next sequence number and the class its platen fixes, queues it, and its line makes an
attempt. Only records, lines and platens move, and no record but one that is admitted. -/
def Obligations.DoseSubmitQueuesTheOldestFreeRecord : Prop :=
  ∀ (s : State) (tag : Byte) (body : List Byte) (q : DoseBody), s.isOpen = true → parseDose body = some q →
    let ok := q.purpose ≤ 7 ∧ q.flags ≤ 1 ∧ q.policy ≤ 2 ∧ 1 ≤ q.segments.length ∧ q.segments.length ≤ 4
      ∧ (∀ g ∈ q.segments, g.1 ≤ 600 ∧ 100 ≤ g.2 ∧ g.2 ≤ 600000) ∧ q.cap ≤ 100000
    let sum := (q.segments.map fun g => g.1 * g.2).sum
    let peak := (q.segments.map Prod.fst).foldl max 0
    (q.platen = 0 ∨ 3 < q.platen ∨ 4 ≤ q.line ∨ ¬ ok ∨ sum < q.cap * 6000 →
      exec (.doseSubmit tag body) s = .next (s.replied 0x28 tag (.refuse .badValue)))
    ∧ ∀ (p : PlatenIx) (l : LineIx), q.platen = p.val + 1 → q.line = l.val → ok → q.cap * 6000 ≤ sum →
      let c := s.lines[l.val]
      let up := c.state ≠ .offline ∧ c.state ≠ .teardown
      let member := c.config.membership[p.val] = true
      let fits := peak ≤ c.config.capacity ∧ peak ≤ s.platens[p.val].config.flowLimit
      (¬ up → exec (.doseSubmit tag body) s = .next (s.replied 0x28 tag (.refuse .lineOffline)))
      ∧ (up → ¬ member → exec (.doseSubmit tag body) s = .next (s.replied 0x28 tag (.refuse .notMember)))
      ∧ (up → member → ¬ fits → exec (.doseSubmit tag body) s = .next (s.replied 0x28 tag (.refuse .badValue)))
      ∧ (up → member → fits → s.free = [] → exec (.doseSubmit tag body) s = .next (s.replied 0x28 tag (.refuse .poolEmpty)))
      ∧ ∀ r rest, up → member → fits → s.free = r :: rest →
        let n := if 4294967295 ≤ s.counter then 1 else s.counter + 1
        let cls := min s.platens[p.val].config.classes[q.purpose % 8] s.platens[p.val].config.ceiling
        let d : DoseRec :=
          { state := .queued, sequence := n, label := q.label, platen := some p, line := l, purpose := q.purpose, cls := cls,
            service := q.flags % 2 == 1, policy := if q.policy = 0 then .notify else if q.policy = 1 then .silent else .hold,
            segments := q.segments.map fun g => ⟨g.1, some g.2⟩, cap := if q.cap = 0 then none else some q.cap, peak := peak,
            segment := 0, segTime := 0, flowTime := 0, acc := 0, reason := none, since := s.now, tickDue := 0 }
        let t := (({ s with free := rest, counter := n }.modRec r fun _ => d).modLine l fun c =>
          { c with queues := c.queues.set cls.val (c.queues[cls.val] ++ [r]) }).attempt l
        exec (.doseSubmit tag body) s = .next (t.replied 0x28 tag (.ok (p1 r.val ++ p1 cls.val ++ p4 n ++ p1 rest.length)))
        ∧ t = { s with free := rest, counter := n, recs := t.recs, lines := t.lines, platens := t.platens }
        ∧ (t.recs[r.val] = d ∨ t.recs[r.val] = { d with state := .opening })
        ∧ (s.PoolWellKept → ∀ k : RecIx, k ≠ r → t.recs[k.val] = s.recs[k.val]
            ∨ (s.recs[k.val].state = .queued ∧ t.recs[k.val] = { s.recs[k.val] with state := .opening, since := s.now }))
        ∧ (s.stop = true → t.platens = s.platens
            ∧ t.lines[l.val].queues[cls.val] = s.lines[l.val].queues[cls.val] ++ [r])

/-- DOSE-RELEASE gives a HELD record back to the tail of the free list and refuses every other. DOSE-CANCEL sends an OPENING or FLOWING dose
to CLOSING with CANCELLED, completes a QUEUED one by its policy, and refuses every other record. -/
def Obligations.DoseCancelAndReleaseEndADose : Prop :=
  (∀ (s : State) (tag : Byte), s.isOpen = true →
     (∀ b : Byte, 63 < b.toNat → exec (.doseRelease tag [b]) s = .next (s.replied 0x2B tag (.refuse .badValue)))
     ∧ ∀ r : RecIx,
       (s.recs[r.val].state ≠ .held → exec (.doseRelease tag [b1 r.val]) s = .next (s.replied 0x2B tag (.refuse .wrongState)))
       ∧ (s.recs[r.val].state = .held →
           exec (.doseRelease tag [b1 r.val]) s = .next
             ({ s.modRec r fun d => { d with state := .free, since := s.now } with free := s.free ++ [r] }.replied 0x2B tag
               (.ok [b1 (s.free.length + 1)]))))
  ∧ (∀ (s : State) (tag : Byte), s.isOpen = true →
      (∀ b : Byte, 63 < b.toNat → exec (.doseCancel tag [b]) s = .next (s.replied 0x29 tag (.refuse .badValue)))
      ∧ ∀ r : RecIx,
        let d := s.recs[r.val]
        (r.val < 8 ∨ (d.state ≠ .queued ∧ d.state ≠ .opening ∧ d.state ≠ .flowing) →
          exec (.doseCancel tag [b1 r.val]) s = .next (s.replied 0x29 tag (.refuse .wrongState)))
        ∧ (8 ≤ r.val → d.state = .opening ∨ d.state = .flowing → ∃ lines,
            exec (.doseCancel tag [b1 r.val]) s = .next (({ s with lines := lines }.modRec r fun d =>
              { d with state := .closing, reason := some .cancelled, since := s.now }).replied 0x29 tag (.ok [5]))
            ∧ lines.map Line.admitted = s.lines.map Line.admitted ∧ lines.map Line.reservation = s.lines.map Line.reservation)
        ∧ (8 ≤ r.val → d.state = .queued → s.PoolWellKept →
            ∃ u, exec (.doseCancel tag [b1 r.val]) s = .next u ∧ u.recs[r.val].reason = some .cancelled
              ∧ u.recs[r.val].acc = d.acc
              ∧ (d.policy = .hold → u.recs[r.val].state = .held ∧ u.free = s.free)
              ∧ (d.policy ≠ .hold → u.recs[r.val].state = .free ∧ u.free = s.free ++ [r])
              ∧ ∀ (l : LineIx) (c : ClassIx), r ∉ u.lines[l.val].queues[c.val]))

/-- An opened dose flows from its first segment. Each ms of FLOWING adds the rate of the segment to the dose and to its line. The end of a
segment makes the next current or closes the dose with COMPLETE. The clock stands at the moment of each event (log entry 1); the ms, the end
of a segment and the cap are events of their own (log entry 17). -/
def Obligations.FlowingDoseIsMeteredSegmentBySegment : Prop :=
  ∀ (s : State) (r : RecIx), s.running = true →
    let d := s.recs[r.val]
    (∀ now, d.state = .opening → 8 ≤ r.val → now = max s.now (d.since + 300) →
      exec (.doseOpeningEnd r) s = .next ((s.reach (d.since + 300)).modRec r fun d =>
        { d with state := .flowing, since := now, segment := 1, segTime := 0, tickDue := now + 1 }))
    ∧ (∀ (h : HeadIx) t, d.state = .opening → r.val / 2 = h.val → s.heads[h.val].state = .slurryWait → s.heads[h.val].dose = some r →
        s.heads[h.val].step = some t → t.line ≠ none → t.lead ≠ 0 →
        ∃ u, exec (.doseOpeningEnd r) s = .next u ∧ u.recs[r.val].state = .flowing ∧ u.recs[r.val].segment = 1
          ∧ u.heads[h.val].state = .wetting ∧ u.heads[h.val].entered = u.now ∧ u.now = max s.now (d.since + 300)
          ∧ u.lines = s.lines ∧ u.platens = s.platens)
    ∧ ∀ g, d.state = .flowing → d.currentSegment = some g →
        (∀ n k l, n = min 281474976710655 (d.acc + g.rate) → k = min 4294967295 (d.segTime + 1) →
          l = min 281474976710655 (s.lines[d.line.val].volume + g.rate) →
          (∀ t, g.duration = some t → d.segTime < t) → (∀ c, d.cap = some c → d.acc < c * 6000 ∨ g.rate = 0) →
          exec (.doseMeterTick r) s = .next (((s.reach d.tickDue).modRec r fun d =>
            { d with acc := n, segTime := k, flowTime := min 4294967295 (d.flowTime + 1), tickDue := d.tickDue + 1 }).modLine d.line
              fun c => { c with volume := l }))
        ∧ (∀ t, g.duration = some t → d.cap = none →
          ∃ u, exec (.doseSegmentEnd r) s = .next u ∧ u.recs[r.val].acc = min 281474976710655 (d.acc + (t - d.segTime) * g.rate)
            ∧ (d.segment < d.segments.length →
                u.recs[r.val].state = .flowing ∧ u.recs[r.val].segment = d.segment + 1 ∧ u.recs[r.val].segTime = 0)
            ∧ (d.segments.length ≤ d.segment →
                u.recs[r.val].state = .closing ∧ u.recs[r.val].reason = some .complete ∧ u.recs[r.val].since = u.now)
            ∧ (∀ k : RecIx, k ≠ r → u.recs[k.val] = s.recs[k.val]) ∧ u.heads = s.heads ∧ u.free = s.free)

/-- A capped dose closes with CAPPED at the first ms at the end of which its accumulator is at or above the cap, when that falls within the
segment or at its end. The end of CLOSING takes the record out of the admitted set and completes it: a head record is IDLE and no longer its
head's to wait for, a tool-controller record goes where its policy says, its DOSE-END first. The last completion of a line in TEARDOWN
leaves it OFFLINE with LINE-OFFLINE and its figures, the torn-down ones counted with their volume. Otherwise the line makes an attempt, and
the platen its round over the lines that hold queued doses for it: none of them is left with a dose it could admit. With no head in ARMED no
other admitted dose is touched. The clock stands at the moment of each event (log entry 1); the cap and the end of a segment are events of
their own (log entry 17). -/
def Obligations.CapAndClosingEndTheDose : Prop :=
  (∀ (s : State) (r : RecIx) (g : Segment) (c k : Nat), s.running = true →
     let d := s.recs[r.val]
     d.state = .flowing → d.currentSegment = some g → d.cap = some c → 0 < g.rate →
     c * 6000 ≤ d.acc + k * g.rate → (∀ j, j < k → d.acc + j * g.rate < c * 6000) →
     (∀ t, g.duration = some t → k ≤ t - d.segTime) → d.acc + k * g.rate ≤ 281474976710655 →
     ∃ u, exec (.doseCapReached r) s = .next u ∧ u.recs[r.val].state = .closing ∧ u.recs[r.val].reason = some .capped
       ∧ u.recs[r.val].acc = d.acc + k * g.rate ∧ u.recs[r.val].flowTime = min 4294967295 (d.flowTime + k)
       ∧ (d.acc ≤ c * 6000 → g.rate ≤ 600 → c ≤ 100000 → u.recs[r.val].delivered ≤ c)
       ∧ (∀ t, g.duration = some t → exec (.doseSegmentEnd r) s = .next u))
  ∧ (∀ (s : State) (r : RecIx), s.running = true → s.PoolWellKept → s.recs[r.val].state = .closing →
      let d := s.recs[r.val]
      let delivered := min 4294967295 (d.acc / 6000)
      let told := Notice.doseEnd r d.sequence d.label d.platen d.line d.cls d.reason delivered d.flowTime d.segment
      ∃ u, exec (.doseClosingEnd r) s = .next u ∧ u.now = max s.now (d.since + 200)
        ∧ (8 ≤ r.val →
            u.recs[r.val].acc = d.acc ∧ u.recs[r.val].reason = d.reason ∧ r ∉ u.lines[d.line.val].admitted
            ∧ (d.policy = .hold → u.recs[r.val].state = .held ∧ u.free = s.free)
            ∧ (d.policy ≠ .hold → u.recs[r.val].state = .free ∧ u.free = s.free ++ [r])
            ∧ (d.policy = .notify → s.link.tx.isSome = true → s.link.notices.length < 32 → ∃ more,
                u.link.notices = s.link.notices ++ told :: more))
        ∧ (s.stop = false → ∀ k : LineIx, s.lines[k.val].state = .ready ∨ s.lines[k.val].state = .priming →
            (∀ c : ClassIx, 0 < s.lines[k.val].config.weights[c.val]) →
            (k = d.line ∨ ∃ x : RecIx, u.recs[x.val].state = .queued ∧ u.recs[x.val].line = k ∧ u.recs[x.val].platen = d.platen) →
            u.Exhausted k)
        ∧ (let c := s.lines[d.line.val]
           let torn := d.reason = some .tornDown
           let count := if torn then c.tornCount + 1 else c.tornCount
           let volume := if torn then min 4294967295 (c.tornVolume + delivered) else c.tornVolume
           c.state = .teardown →
            u.lines[d.line.val].tornCount = count ∧ u.lines[d.line.val].tornVolume = volume
            ∧ (u.lines[d.line.val].state = if c.admitted = [r] then .offline else .teardown)
            ∧ (c.admitted = [r] → (∀ k : HeadIx, s.heads[k.val].state ≠ .armed ∧ s.heads[k.val].state ≠ .slurryWait) →
                s.link.tx.isSome = true → s.link.notices.length + 2 ≤ 32 →
                u.link.notices = s.link.notices ++ (if 8 ≤ r.val ∧ d.policy = .notify then [told] else [])
                  ++ [.lineOffline d.line count volume c.before]))
        ∧ (∀ h : HeadIx, r.val / 2 = h.val → s.heads[h.val].state ≠ .slurryWait ∨ s.heads[h.val].dose ≠ none →
            (∀ k : HeadIx, s.heads[k.val].state ≠ .armed) → u.recs[r.val].state = .idle ∧ u.heads = s.heads)
        ∧ ((∀ k : HeadIx, s.heads[k.val].state ≠ .armed) →
            ∀ k : RecIx, k ≠ r → s.recs[k.val].state.admitted = true → u.recs[k.val] = s.recs[k.val]))

/-- The laws of the doses hold on: every record in exactly one place, every reservation the sum of its peaks and within its budget, every
OPENING or FLOWING dose with its line READY, its platen permitting and STOP released. -/
def Obligations.DoseLawsAreKept : Prop :=
  ∀ s t : State, s.DoseLaw → step s = .next t → t.DoseLaw

/-! ### Lines -/

/-- LINE-OPEN, LINE-CONFIG, LINE-PRIME and the prime timer: what each does by the line's state, an admission attempt at its end but for a
LINE-PRIME. A request to a line above 3 is refused; so is a LINE-TEARDOWN of a line OFFLINE or in TEARDOWN. An accepted one empties the
class queues, sends every OPENING and FLOWING dose to CLOSING with TORN-DOWN, halts the heads that lose their doses so, and leaves the line
in TEARDOWN, or OFFLINE with its LINE-OFFLINE notice with no dose left; its reply counts the removals and the closings; a head that does not
work has no dose there (DosesOfWork). LINE-CONFIG replies with the reservation before the attempt (log entry 29). The prime timer expires at
its moment (log entry 1). A line's valve toward a platen is open while a dose of the line for that platen is OPENING or FLOWING, its return
valve in PRIMING; its pump runs at the capacity in PRIMING and else at the sum of the current segment rates of its FLOWING doses. -/
def Obligations.LineRequestsActByTheLineState : Prop :=
  (∀ (s : State) (l : LineIx),
     let c := s.lines[l.val]
     (s.isOpen = true → ∀ tag : Byte,
       (c.state = .ready ∨ c.state = .priming ∨ c.state = .teardown →
         exec (.lineOpen tag [b1 l.val]) s = .next (s.replied 0x31 tag (.ok [b1 c.state.code])))
       ∧ (c.state = .offline ∨ c.state = .faulted →
         let t := (s.modLine l fun c => { c with
           state := .ready
           credits := if c.state = .offline then c.config.weights else c.credits
           volume := if c.state = .offline then 0 else c.volume }).attempt l
         exec (.lineOpen tag [b1 l.val]) s = .next (t.replied 0x31 tag (.ok [b1 c.state.code]))
         ∧ t = { s with recs := t.recs, lines := t.lines, platens := t.platens }
         ∧ t.lines[l.val].state = .ready ∧ (t.lines[l.val].volume = if c.state = .offline then 0 else c.volume)
         ∧ (s.stop = true → c.state = .offline → t.lines[l.val].credits = c.config.weights)
         ∧ (s.stop = true → t.recs = s.recs ∧ t.platens = s.platens))
       ∧ (c.state = .ready → c.admitted = [] → s.stop = false →
         exec (.linePrime tag [b1 l.val]) s = .next ((s.modLine l fun c =>
           { c with state := .priming, primeDue := some (s.now + c.config.primeTime) }).replied 0x33 tag (.ok [2])))
       ∧ (c.state ≠ .ready ∨ c.admitted ≠ [] ∨ s.stop = true →
         exec (.linePrime tag [b1 l.val]) s = .next (s.replied 0x33 tag ⟨.ok, false, true, [b1 c.state.code]⟩))
       ∧ (∀ body q, parseLineConfig body = some q → q.line = l.val →
         let ok := 50 ≤ q.capacity ∧ q.capacity ≤ 1200 ∧ q.scheme ≤ 1 ∧ (∀ k : ClassIx, 1 ≤ q.weights[k.val] ∧ q.weights[k.val] ≤ 127)
           ∧ q.membership < 8 ∧ 500 ≤ q.primeTime ∧ q.primeTime ≤ 20000 ∧ 5 ≤ q.tolerance ∧ q.tolerance ≤ 50
           ∧ 500 ≤ q.faultTime ∧ q.faultTime ≤ 10000
         (¬ ok → exec (.lineConfig tag body) s = .next (s.replied 0x30 tag (.refuse .badValue)))
         ∧ (ok →
           let n : LineConfig := ⟨q.capacity, if q.scheme = 0 then .strict else .weighted, q.weights,
             Vector.ofFn fun p : PlatenIx => q.membership / 2 ^ p.val % 2 == 1, q.primeTime, q.tolerance, q.faultTime⟩
           let strands := ∃ (r : RecIx) (p : PlatenIx), s.recs[r.val].line = l ∧ s.recs[r.val].platen = some p ∧ n.membership[p.val] = false
             ∧ (s.recs[r.val].state = .queued ∨ s.recs[r.val].state = .opening ∨ s.recs[r.val].state = .flowing
               ∨ s.recs[r.val].state = .closing)
           (n.capacity < c.reservation ∨ strands → exec (.lineConfig tag body) s = .next (s.replied 0x30 tag (.refuse .inUse)))
           ∧ (c.reservation ≤ n.capacity → ¬ strands →
             let t := (s.modLine l fun c => { c with config := n, credits := n.weights, faultSince := none }).attempt l
             exec (.lineConfig tag body) s = .next (t.replied 0x30 tag (.ok (p2 c.reservation)))
             ∧ t = { s with recs := t.recs, lines := t.lines, platens := t.platens }
             ∧ t.lines[l.val].config = n ∧ t.lines[l.val].faultSince = none
             ∧ (s.stop = true → t.lines[l.val].credits = n.weights ∧ t.recs = s.recs)
             ∧ ∀ k : LineIx, k ≠ l → t.lines[k.val] = s.lines[k.val]))))
     ∧ (s.running = true → ∀ due, c.state = .priming → c.primeDue = some due →
         let t := ((s.reach due).modLine l fun c => { c with
           state := .ready
           primeDue := none
           faultSince := if ∃ r ∈ c.admitted, s.recs[r.val].state = .flowing then c.faultSince else none }).attempt l
         exec (.primeTimerExpiry l) s = .next t
         ∧ t = { s.reach due with recs := t.recs, lines := t.lines, platens := t.platens }
         ∧ t.lines[l.val].state = .ready ∧ t.lines[l.val].primeDue = none
         ∧ t.platens.map Platen.mode = s.platens.map Platen.mode))
  ∧ (∀ (s : State) (tag : Byte), s.isOpen = true →
      (∀ b : Byte, 3 < b.toNat →
        exec (.lineOpen tag [b]) s = .next (s.replied 0x31 tag (.refuse .badValue))
        ∧ exec (.lineTeardown tag [b]) s = .next (s.replied 0x32 tag (.refuse .badValue))
        ∧ exec (.linePrime tag [b]) s = .next (s.replied 0x33 tag (.refuse .badValue)))
      ∧ (∀ body q, parseLineConfig body = some q → 3 < q.line →
          exec (.lineConfig tag body) s = .next (s.replied 0x30 tag (.refuse .badValue)))
      ∧ ∀ l : LineIx,
        let c := s.lines[l.val]
        (c.state = .offline ∨ c.state = .teardown →
          exec (.lineTeardown tag [b1 l.val]) s = .next (s.replied 0x32 tag (.refuse .wrongState)))
        ∧ (c.state ≠ .offline → c.state ≠ .teardown → s.PoolWellKept → s.DosesOfWork →
            let queued := c.queues[3] ++ c.queues[2] ++ c.queues[1] ++ c.queues[0]
            let live := c.admitted.filter fun r => s.recs[r.val].state == .opening || s.recs[r.val].state == .flowing
            ∃ u, exec (.lineTeardown tag [b1 l.val]) s = .next u ∧ u.now = s.now
              ∧ (s.link.tx.isSome = true → u.link.replies = s.link.replies ++ [⟨0xB2, tag, [0, 0, b1 queued.length, b1 live.length]⟩])
              ∧ u.lines[l.val].before = c.state ∧ u.lines[l.val].faultSince = none
              ∧ u.lines[l.val].tornCount = queued.length ∧ u.lines[l.val].tornVolume = 0
              ∧ (c.admitted = [] → s.link.tx.isSome = true → s.link.notices.length + queued.length + 9 ≤ 32 →
                  u.link.notices.getLast? = some (.lineOffline l queued.length 0 c.state))
              ∧ (∀ (h : HeadIx) r, s.heads[h.val].dose = some r → r ∈ queued ∨ r ∈ live → s.heads[h.val].state.works = true →
                  u.heads[h.val].state = .halted ∧ u.heads[h.val].haltReason = some .slurryLost)
              ∧ (u.lines[l.val].state = if c.admitted = [] then .offline else .teardown)
              ∧ u.lines[l.val].admitted = c.admitted ∧ u.lines[l.val].reservation = c.reservation
              ∧ (∀ k : ClassIx, u.lines[l.val].queues[k.val] = []) ∧ u.lines[l.val].primeDue = none
              ∧ (∀ r ∈ c.admitted, u.recs[r.val].state = .closing
                  ∧ (s.recs[r.val].state.live = true → u.recs[r.val].reason = some .tornDown)
                  ∧ (s.recs[r.val].state = .closing → u.recs[r.val].reason = s.recs[r.val].reason))
              ∧ (∀ r : RecIx, 8 ≤ r.val → s.recs[r.val].state = .queued → s.recs[r.val].line = l →
                  u.recs[r.val].reason = some .tornDown
                  ∧ (u.recs[r.val].state = if s.recs[r.val].policy = .hold then .held else .free))))
  ∧ ∀ (s : State) (l : LineIx), s.PoolWellKept →
      let flowing := (List.finRange 64).filter fun r : RecIx => s.recs[r.val].state == .flowing && s.recs[r.val].line == l
      (∀ p : PlatenIx, s.valveOpen l p = true ↔ ∃ r : RecIx, s.recs[r.val].line = l ∧ s.recs[r.val].platen = some p
        ∧ (s.recs[r.val].state = .opening ∨ s.recs[r.val].state = .flowing))
      ∧ (s.returnValveOpen l = true ↔ s.lines[l.val].state = .priming)
      ∧ s.pumpRate l = if s.lines[l.val].state = .priming then s.lines[l.val].config.capacity
          else (flowing.map fun r => ((s.recs[r.val].currentSegment).map Segment.rate).getD 0).sum

/-- A STRICT line chooses the highest class with a candidate, the oldest eligible record of its queue, and neither reads its credits nor
spends them. -/
def Obligations.StrictLineChoosesTheHighestClass : Prop :=
  ∀ (s : State) (l : LineIx), s.lines[l.val].config.scheme = .strict →
    (s.choose l).1 = s
    ∧ (∀ c r, (s.choose l).2 = some (c, r) → s.candidate l c = some r ∧ ∀ k : ClassIx, c < k → s.candidate l k = none)
    ∧ ((s.choose l).2 = none ↔ ∀ k : ClassIx, s.candidate l k = none)
    ∧ (∀ credits : Vector Nat 4, ((s.modLine l fun c => { c with credits := credits }).choose l).2 = (s.choose l).2)
    ∧ (s.attempt l).lines[l.val].credits = s.lines[l.val].credits
    ∧ ((s.choose l).2 = none → s.attempt l = s.modLine l fun c => { c with stoppedAt := none })
    ∧ (∀ c r p, s.admits l = true → s.lines[l.val].stoppedAt = none → (s.choose l).2 = some (c, r) → s.recs[r.val].platen = some p →
        (s.fits l p r = false → s.attempt l = s.modLine l fun n => { n with stoppedAt := some r })
        ∧ (s.fits l p r = true → ∃ more, (s.attempt l).lines[l.val].admitted = s.lines[l.val].admitted ++ r :: more))

/-! ### Conditioners and wear maps -/

/-- COND-STOP is accepted for every platen: it takes the host holder away, raises the arm with HOST-STOP when that was the last member, and
changes nothing, with the not-performed flag, when there is none. The count answered for a STOWED conditioner is that of its last lowering
(log entry 31). -/
def Obligations.CondStopRemovesTheHostHolder : Prop :=
  ∀ (s : State) (tag : Byte), s.isOpen = true →
    (∀ b : Byte, b.toNat = 0 ∨ 3 < b.toNat → exec (.condStop tag [b]) s = .next (s.replied 0x3A tag (.refuse .badValue)))
    ∧ ∀ p : PlatenIx,
      let c := s.conds[p.val]
      (c.host = none → exec (.condStop tag [b1 (p.val + 1)]) s
          = .next (s.replied 0x3A tag ⟨.ok, false, true, p1 c.arm.code ++ p2 c.sweeps⟩))
      ∧ (c.host ≠ none → c.head = none → c.arm = .lowering ∨ c.arm = .sweeping →
          exec (.condStop tag [b1 (p.val + 1)]) s = .next ((s.modCond p fun c =>
            { c with host := none, arm := .raising, entered := s.now, endReason := some .hostStop }).replied 0x3A tag
              (.ok (p1 3 ++ p2 c.sweeps))))
      ∧ (c.host ≠ none → c.head ≠ none ∨ c.arm = .stowed ∨ c.arm = .raising →
          exec (.condStop tag [b1 (p.val + 1)]) s = .next ((s.modCond p fun c => { c with host := none }).replied 0x3A tag
            (.ok (p1 c.arm.code ++ p2 c.sweeps))))

/-- COND-RUN and COND-PROFILE make their checks in order; a COND-RUN that passes makes the host a holder with its count and lowers a stowed
arm that nobody held, clearing the counts of the lowering. PAD-CHANGE, WEAR-SET and WEAR-DISCARD change the wear map alone: a new pad has no
life and no valid learned entry, a static factor is clamped to 128 to 512 with the clamped flag, a discard keeps everything but the valid
flags. That an entry made invalid keeps its L and the time of its last update is DEDUCED (log entry 19). -/
def Obligations.CondAndWearRequestsMakeTheirChecks : Prop :=
  (∀ (s : State) (tag : Byte), s.isOpen = true →
     (∀ body k (f : Profile), parseProfile body = some (k, f) →
       let ok := 50 ≤ f.baseDwell ∧ f.baseDwell ≤ 2000 ∧ 1 ≤ f.refTorque ∧ f.refTorque ≤ 5000 ∧ f.downforce ≤ 4095
       (k = 0 ∨ 3 < k ∨ ¬ ok → exec (.condProfile tag body) s = .next (s.replied 0x38 tag (.refuse .badValue)))
       ∧ ∀ p : PlatenIx, k = p.val + 1 → ok →
         (s.conds[p.val].arm ≠ .stowed → exec (.condProfile tag body) s = .next (s.replied 0x38 tag (.refuse .wrongState)))
         ∧ (s.conds[p.val].arm = .stowed → exec (.condProfile tag body) s
             = .next ((s.modCond p fun c => { c with profile := f }).replied 0x38 tag (.ok []))))
     ∧ ∀ body k n, parseRun body = some (k, n) →
       (k = 0 ∨ 3 < k ∨ 1000 < n → exec (.condRun tag body) s = .next (s.replied 0x39 tag (.refuse .badValue)))
       ∧ ∀ p : PlatenIx, k = p.val + 1 → n ≤ 1000 →
         let c := s.conds[p.val]
         let m := s.platens[p.val].mode
         let count := if n = 0 then HostHold.continuous else .sweeps n
         let before := match c.host with
           | none => 65535
           | some .continuous => 0
           | some (.sweeps k) => k
         (s.stop = true → exec (.condRun tag body) s = .next (s.replied 0x39 tag (.refuse .stopped)))
         ∧ (s.stop = false → m ≠ .conditioning → m ≠ .polishing →
             exec (.condRun tag body) s = .next (s.replied 0x39 tag (.refuse .wrongState)))
         ∧ (s.stop = false → m = .conditioning ∨ m = .polishing → s.car.state ≠ .idle →
             exec (.condRun tag body) s = .next (s.replied 0x39 tag (.refuse .indexing)))
         ∧ (s.stop = false → m = .conditioning ∨ m = .polishing → s.car.state = .idle →
             (c.arm = .stowed → c.unheld = true → exec (.condRun tag body) s = .next ((s.modCond p fun c =>
               { c with host := some count, arm := .lowering, entered := s.now, sweeps := 0, learned := 0, endReason := none,
                        segment := 0, inward := false }).replied 0x39 tag (.ok (p1 1 ++ p2 65535))))
             ∧ (c.arm ≠ .stowed ∨ c.unheld = false → exec (.condRun tag body) s = .next ((s.modCond p fun c =>
               { c with host := some count }).replied 0x39 tag (.ok (p1 c.arm.code ++ p2 before))))))
  ∧ (∀ (s : State) (tag : Byte), s.isOpen = true →
      (∀ b : Byte, b.toNat = 0 ∨ 3 < b.toNat →
        exec (.padChange tag [b]) s = .next (s.replied 0x3B tag (.refuse .badValue))
        ∧ exec (.wearDiscard tag [b]) s = .next (s.replied 0x3F tag (.refuse .badValue)))
      ∧ (∀ p : PlatenIx,
        let free := s.conds[p.val].arm = .stowed ∧ (∀ h : HeadIx, s.heads[h.val].pressesOn p = false)
          ∧ (s.platens[p.val].mode = .offline ∨ s.platens[p.val].mode = .blocked)
        (¬ free → exec (.padChange tag [b1 (p.val + 1)]) s = .next (s.replied 0x3B tag (.refuse .wrongState)))
        ∧ (free → exec (.padChange tag [b1 (p.val + 1)]) s = .next ((s.modWear p fun m =>
            { m with learned := Vector.ofFn fun g : SegIx => { m.learned[g.val] with valid := false }, life := 0,
                     remainder := 0 }).replied 0x3B tag (.ok (p4 s.wears[p.val].life))))
        ∧ exec (.wearDiscard tag [b1 (p.val + 1)]) s = .next ((s.modWear p fun m =>
            { m with learned := Vector.ofFn fun g : SegIx => { m.learned[g.val] with valid := false } }).replied 0x3F tag
              (.ok [b1 (s.wears[p.val].learned.toList.countP LearnedEntry.valid)])))
      ∧ ∀ body (q : WearSetBody), parseWearSet body = some q →
        (q.platen = 0 ∨ 3 < q.platen ∨ 10 ≤ q.segment ∨ 1 < q.valid ∨ 1 < q.override →
          exec (.wearSet tag body) s = .next (s.replied 0x3C tag (.refuse .badValue)))
        ∧ ∀ (p : PlatenIx) (g : SegIx), q.platen = p.val + 1 → q.segment = g.val → q.valid ≤ 1 → q.override ≤ 1 →
          let f := max 128 (min 512 q.factor)
          exec (.wearSet tag body) s = .next ((s.modWear p fun m => m.modStatic g fun _ => ⟨q.valid == 1, q.override == 1, f⟩).replied
            0x3C tag ⟨.ok, f != q.factor, false, [b1 q.valid, b1 q.override, b1 (f / 256), b1 f]⟩))

/-- The dwell factor is chosen by the precedence of the wear-map table, from the entries as they stand; an update makes an invalid entry
valid with the sample as its L and moves a valid one by an eighth of the difference; a valid entry that is stale keeps its L as the seed of
the next update and drives no dwell until then. -/
def Obligations.WearLookupFollowsItsPrecedence : Prop :=
  (∀ (e : StaticEntry) (l : LearnedEntry) (tref now : Nat),
    let usable := l.valid = true ∧ ∃ t, l.updated = some t ∧ now < t + 600000
    (e.valid = true → e.override = true → factorFor e l tref now = (e.factor, .static))
    ∧ (e.valid = true → e.override = false → usable → factorFor e l tref now = (learnedFactor tref l.torque, .learned))
    ∧ (e.valid = true → e.override = false → ¬ usable → factorFor e l tref now = (e.factor, .static))
    ∧ (e.valid = false → usable → factorFor e l tref now = (learnedFactor tref l.torque, .learned))
    ∧ (e.valid = false → ¬ usable → factorFor e l tref now = (256, .default)))
  ∧ (∀ (s : State) (p : PlatenIx) (g : SegIx), s.lookup p g
      = factorFor s.wears[p.val].statics[g.val] s.wears[p.val].learned[g.val] s.conds[p.val].profile.refTorque s.now)
  ∧ ∀ (l : LearnedEntry) (sample now : Nat),
      (l.valid = true → ((l.update sample now).torque : Int) = l.torque + ((sample : Int) - l.torque).tdiv 8)
      ∧ (l.valid = false → (l.update sample now).torque = sample)
      ∧ (l.update sample now).valid = true ∧ (l.update sample now).updated = some now

/-- The learned factor of an entry is (256 × Tref + L / 2) / L clamped to 128 to 512, and 512 for an L of 0; each lookup computes it from
the L and Tref of its moment. -/
def Obligations.LearnedFactorIsTheClampedQuotient : Prop :=
  (∀ tref : Nat, learnedFactor tref 0 = 512)
  ∧ (∀ tref torque : Nat, 0 < torque → ∃ q r, 256 * tref + torque / 2 = q * torque + r ∧ r < torque
      ∧ learnedFactor tref torque = max 128 (min 512 q))
  ∧ ∀ (s : State) (p : PlatenIx) (g : SegIx), (s.lookup p g).2 = .learned →
      (s.lookup p g).1 = learnedFactor s.conds[p.val].profile.refTorque s.wears[p.val].learned[g.val].torque

/-- The arm's timers: a lowering ends in the first dwell, on S0 outward; a whole dwell teaches in a mode that permits it and is followed by
the next of the pattern, S9 twice at the turn and S0 outward again after a sweep; each dwell takes its factor and its time at its start. At
the end of a sweep the host holder's count falls, and at 0 that holder leaves: the arm raises with COUNT when it was the last and sweeps on
while a head holds. A raise ends STOWED with its COND-END, and lowers again for a holder that joined meanwhile. A learned entry turns stale
600 s after its update and keeps its valid flag and its L; each ms of pressing on a platen adds to its pad's life, a second at a time, and
to no other's. The lift output is up in STOWED and RAISING, the segment output that of the dwell, and the downforce is applied in SWEEPING
alone. The clock stands at the moment of each event (log entry 1), each ms of pressing being an event of its own (log entry 18); the mean of
a dwell without a sample is open (log entry 6). -/
def Obligations.ArmTimersRunTheDwellPattern : Prop :=
  (∀ (s : State) (p : PlatenIx), s.running = true →
     let c := s.conds[p.val]
     (c.arm = .lowering → ∃ u, exec (.condLoweringEnd p) s = .next u ∧ u.now = max s.now (c.entered + 600)
       ∧ u.BeginsDwell p 0 false ∧ u.conds[p.val].profile = c.profile ∧ u.conds[p.val].host = c.host ∧ u.conds[p.val].head = c.head
       ∧ u.conds[p.val].sweeps = c.sweeps ∧ u.conds[p.val].learned = c.learned ∧ u.wears = s.wears ∧ u.heads = s.heads)
     ∧ (c.arm ≠ .lowering → exec (.condLoweringEnd p) s = .next s)
     ∧ (c.arm = .sweeping →
       let g := c.segment
       let sample := max 0 (min 2147483647 (c.torqueSum.tdiv c.torqueCount))
       ∃ u, exec (.condDwellEnd p) s = .next u ∧ u.now = max s.now (c.entered + c.dwell) ∧ u.conds[p.val].profile = c.profile
         ∧ (s.platens[p.val].mode.learn = true →
             (c.torqueCount ≠ 0 → u.wears[p.val].learned[g.val] = s.wears[p.val].learned[g.val].update sample.toNat u.now)
             ∧ u.wears[p.val].learned[g.val].valid = true ∧ u.wears[p.val].learned[g.val].updated = some u.now
             ∧ (∀ k : SegIx, k ≠ g → u.wears[p.val].learned[k.val] = s.wears[p.val].learned[k.val])
             ∧ u.conds[p.val].learned = min 65535 (c.learned + 1))
         ∧ (s.platens[p.val].mode.learn = false → u.wears = s.wears ∧ u.conds[p.val].learned = c.learned)
         ∧ (c.inward = false → ∀ k : SegIx, k.val = g.val + 1 → u.BeginsDwell p k false)
         ∧ (c.inward = false → g.val = 9 → u.BeginsDwell p g true)
         ∧ (c.inward = true → ∀ k : SegIx, k.val + 1 = g.val → u.BeginsDwell p k true)
         ∧ (c.inward = false ∨ 0 < g.val →
             u.conds[p.val].sweeps = c.sweeps ∧ u.conds[p.val].host = c.host ∧ u.conds[p.val].head = c.head)
         ∧ (c.inward = true → g.val = 0 → u.conds[p.val].sweeps = min 65535 (c.sweeps + 1) ∧ u.conds[p.val].head = c.head
             ∧ (∀ n, c.host = some (.sweeps (n + 2)) → u.conds[p.val].host = some (.sweeps (n + 1)) ∧ u.BeginsDwell p 0 false)
             ∧ (c.host = some .continuous → u.conds[p.val].host = some .continuous ∧ u.BeginsDwell p 0 false)
             ∧ (c.host = none ∨ c.host = some (.sweeps 1) → c.head ≠ none → u.conds[p.val].host = none ∧ u.BeginsDwell p 0 false)
             ∧ (c.host = some (.sweeps 1) → c.head = none → u.conds[p.val].host = none ∧ u.conds[p.val].arm = .raising
                 ∧ u.conds[p.val].endReason = some .count ∧ u.conds[p.val].entered = u.now ∧ u.conds[p.val].segment = g)))
     ∧ (c.arm = .raising → ∃ u, exec (.condRaisingEnd p) s = .next u ∧ u.now = max s.now (c.entered + 600)
         ∧ (c.unheld = true → u.conds[p.val] = { c with arm := .stowed })
         ∧ (c.unheld = false → u.conds[p.val].arm = .lowering ∧ u.conds[p.val].sweeps = 0 ∧ u.conds[p.val].endReason = none
             ∧ u.conds[p.val].host = c.host ∧ u.conds[p.val].head = c.head ∧ u.conds[p.val].entered = u.now)
         ∧ u.link = s.link.post (.condEnd p c.endReason c.sweeps c.segment c.learned !c.unheld)
         ∧ (∀ k : PlatenIx, k ≠ p → u.conds[k.val] = s.conds[k.val])
         ∧ (s.car.state ≠ .lifting → u.car = s.car) ∧ u.heads = s.heads ∧ u.wears = s.wears))
  ∧ ((∀ (s : State) (p : PlatenIx) (g : SegIx), s.running = true →
      let e := s.wears[p.val].learned[g.val]
      (e.updated = none → exec (.learnedEntryStale p g) s = .next s)
      ∧ ∀ t, e.updated = some t →
        exec (.learnedEntryStale p g) s = .next ((s.reach (t + 600000)).modWear p fun m => m.modLearned g fun e => { e with updated := none }))
    ∧ ∀ (s : State) (p : PlatenIx), s.running = true →
      ((∀ h : HeadIx, s.heads[h.val].pressesOn p = false) → exec (.padLifeTick p) s = .next s)
      ∧ ∀ h : HeadIx, s.heads[h.val].pressesOn p = true → (∀ k : HeadIx, k ≠ h → s.heads[k.val].pressesOn p = false) →
        let m := s.wears[p.val]
        let t := max m.ticked s.heads[h.val].pressStart + 1
        exec (.padLifeTick p) s = .next ((s.reach t).modWear p fun m =>
          { m with ticked := t, remainder := if m.remainder + 1 < 1000 then m.remainder + 1 else m.remainder + 1 - 1000,
                   life := if m.remainder + 1 < 1000 then m.life else min 4294967295 (m.life + 1) }))
  ∧ ∀ c : Conditioner, (c.liftUp = true ↔ c.arm = .stowed ∨ c.arm = .raising)
      ∧ (c.segmentOutput = if c.arm = .stowed ∨ c.arm = .lowering then 0 else c.segment)
      ∧ c.downforceOutput = if c.arm = .sweeping then c.profile.downforce else 0

/-! ### Watches -/

/-- The requests to a watch: WATCH-DEFINE replaces the definition of an unbound watch whole and disarms it, WATCH-ARM and WATCH-DISARM take
an unbound defined watch, WATCH-EXCHANGE replaces the threshold alone; the end of the blank time makes the watch WATCHING. The clock then
stands at that expiry (log entry 1). -/
def Obligations.WatchRequestsActOnOneWatch : Prop :=
  (∀ (s : State) (tag : Byte), s.isOpen = true →
    (∀ b : Byte, 15 < b.toNat →
      exec (.watchArm tag [b]) s = .next (s.replied 0x49 tag (.refuse .badValue))
      ∧ exec (.watchDisarm tag [b]) s = .next (s.replied 0x4A tag (.refuse .badValue)))
    ∧ (∀ body (q : WatchBody), parseWatch body = some q →
        let ok := (∃ src : Source, Source.id src = q.source) ∧ q.relation ≤ 3 ∧ 1 ≤ q.count ∧ q.count ≤ 64 ∧ q.window ≤ 2147483647
          ∧ q.blank ≤ 60000 ∧ q.hold ≤ 10000 ∧ q.action ≤ 3 ∧ q.target ≤ 3
          ∧ ((q.destType = 0 ∧ q.destNumber ≤ 7) ∨ (q.destType = 1 ∧ q.destNumber ≤ 3 ∧ q.destZone ≤ 4))
          ∧ (∃ src : Source, Source.id src = q.copy) ∧ q.repeats ≤ 1
        (15 < q.watch ∨ ¬ ok → exec (.watchDefine tag body) s = .next (s.replied 0x48 tag (.refuse .badValue)))
        ∧ (ok → ∃ d, q.defn = some d ∧ Source.id d.source = q.source ∧ d.relation.code = q.relation ∧ d.threshold = q.threshold
            ∧ d.count = q.count ∧ d.window = q.window ∧ d.blank = q.blank ∧ d.hold = q.hold ∧ d.action.code = q.action
            ∧ d.target.val = q.target ∧ Source.id d.copy = q.copy ∧ (d.repeats = true ↔ q.repeats = 1)
            ∧ match d.dest with
              | .latch i b => q.destType = 0 ∧ i.val = q.destNumber ∧ b = b1 q.destZone
              | .trim h z => q.destType = 1 ∧ h.val = q.destNumber ∧ z.val = q.destZone))
    ∧ (∀ body k x, parseExchange body = some (k, x) → 15 < k →
        exec (.watchExchange tag body) s = .next (s.replied 0x4B tag (.refuse .badValue)))
    ∧ ∀ w : WatchIx,
      let k := s.watches[w.val]
      let cleared : Watch := { k with history := [], prevAvg := none, crossed := false, holdStart := none }
      (∀ body (q : WatchBody) d, parseWatch body = some q → q.watch = w.val → q.defn = some d →
        (k.bound ≠ none → exec (.watchDefine tag body) s = .next (s.replied 0x48 tag (.refuse .wrongState)))
        ∧ (k.bound = none → exec (.watchDefine tag body) s = .next ((s.modWatch w fun _ =>
            { cleared with state := .disarmed, defn := d, firings := 0 }).replied 0x48 tag (.ok [b1 k.state.code]))))
      ∧ (k.bound ≠ none ∨ (k.state ≠ .disarmed ∧ k.state ≠ .fired) →
          exec (.watchArm tag [b1 w.val]) s = .next (s.replied 0x49 tag (.refuse .wrongState)))
      ∧ (k.bound = none → k.state = .disarmed ∨ k.state = .fired →
          exec (.watchArm tag [b1 w.val]) s = .next ((s.modWatch w fun _ =>
            { cleared with state := if k.defn.blank = 0 then .watching else .blanking, blankStart := s.now }).replied 0x49 tag
              (.ok [])))
      ∧ (k.state = .undefined ∨ k.bound ≠ none →
          exec (.watchDisarm tag [b1 w.val]) s = .next (s.replied 0x4A tag (.refuse .wrongState)))
      ∧ (k.state ≠ .undefined → k.bound = none →
          exec (.watchDisarm tag [b1 w.val]) s = .next ((s.modWatch w fun _ => { cleared with state := .disarmed }).replied 0x4A tag
            (.ok [b1 k.state.code])))
      ∧ ∀ body n x, parseExchange body = some (n, x) → n = w.val →
        (k.state = .undefined → exec (.watchExchange tag body) s = .next (s.replied 0x4B tag (.refuse .wrongState)))
        ∧ (k.state ≠ .undefined → exec (.watchExchange tag body) s = .next ((s.modWatch w fun k =>
            { k with defn := { k.defn with threshold := x } }).replied 0x4B tag (.ok (s4 k.defn.threshold)))))
  ∧ ∀ (s : State) (w : WatchIx), s.running = true →
    (s.watches[w.val].state ≠ .blanking → exec (.blankTimeExpiry w) s = .next s)
    ∧ (s.watches[w.val].state = .blanking → exec (.blankTimeExpiry w) s
        = .next ((s.reach (s.watches[w.val].blankStart + s.watches[w.val].defn.blank)).modWatch w fun k =>
            { k with state := .watching }))

/-- The relation on the average: ABOVE and BELOW read the average alone; RISES and FALLS hold after a crossing and for as long as the
crossed mark stands, never at the first sample, whose average is the sample itself; the mark follows the condition. -/
def Obligations.RelationsReadAverageAndCrossing : Prop :=
  ∀ (k : Watch) (a : Int),
    let t := k.defn.threshold
    (k.defn.relation = .above → (k.holds a = true ↔ t < a)) ∧ (k.defn.relation = .below → (k.holds a = true ↔ a < t))
    ∧ (k.defn.relation = .rises → (k.holds a = true ↔ t < a ∧ ((∃ b, k.prevAvg = some b ∧ b ≤ t) ∨ k.crossed = true)))
    ∧ (k.defn.relation = .falls → (k.holds a = true ↔ a < t ∧ ((∃ b, k.prevAvg = some b ∧ t ≤ b) ∨ k.crossed = true)))
    ∧ ∀ (v : Int) (now : Nat), k.state = .watching ∨ k.state = .holding ∨ k.state = .fired →
        let avg := (k.filtered v).sum.tdiv (k.filtered v).length
        (k.evaluate v now).1.prevAvg = some avg
        ∧ (k.defn.relation = .rises ∨ k.defn.relation = .falls → (k.evaluate v now).1.crossed = k.holds avg)
        ∧ (1 ≤ k.defn.count → k.history = [] → avg = v)
        ∧ (k.history = [] → k.prevAvg = none → k.crossed = false → k.defn.relation = .rises ∨ k.defn.relation = .falls →
            (k.evaluate v now).2 = false ∧ (k.evaluate v now).1.crossed = false)

/-- How a watch moves at a sample: WATCHING to HOLDING, or to a firing with a hold time of 0; HOLDING to a firing once the hold time has
passed, or back; FIRED back to WATCHING for a REPEAT watch at a false sample; any other state ignores the sample. A firing counts and posts
WATCH-FIRED first, with the outcome of its action. Of an unbound watch NOTIFY does nothing more, LATCH writes the copy source's value to the
latch or, clamped, to the trim, HALT halts its target with reason WATCH, ADVANCE ends its target's step with ADVANCED and the succession
follows; the watch is then DISARMED, or FIRED with REPEAT, unless that succession has bound it afresh (log entry 30); an ADVANCE by a
pressure of its own target is left out there. The firing of a bound watch is the endpoint of its head in PRESSING: OVERPOLISH follows, or
for an overpolish time of 0 the STEP-END with ENDPOINT and the succession; a HALT of this same head only records it; in OVERPOLISH it is no
second endpoint. A HALT or an ADVANCE of a bound watch at another head acts on that head after the bound head has been told. The watch takes
its next state before what its head does (log entry 12). No other watch is on the source here, nor a supervision or a flow check. The clock
stands at the moment of the sample (log entry 1). -/
def Obligations.WatchesHoldThenFire : Prop :=
  (∀ (k : Watch) (v : Int) (now : Nat),
     let c := k.holds ((k.filtered v).sum.tdiv (k.filtered v).length)
     let e := k.evaluate v now
     ((k.filtered v).length ≤ max k.defn.count 1 ∨ k.defn.count < k.history.length)
     ∧ (k.state = .watching → c = false → e.2 = false ∧ e.1.state = .watching)
     ∧ (k.state = .watching → c = true → k.defn.hold = 0 → e.2 = true)
     ∧ (k.state = .watching → c = true → k.defn.hold ≠ 0 → e.2 = false ∧ e.1.state = .holding ∧ e.1.holdStart = some now)
     ∧ (k.state = .holding → c = false → e.2 = false ∧ e.1.state = .watching ∧ e.1.holdStart = none)
     ∧ (∀ t, k.state = .holding → c = true → k.holdStart = some t → (e.2 = true ↔ k.defn.hold ≤ now - t))
     ∧ (k.state = .fired → e.2 = false ∧ (e.1.state = if k.defn.repeats = true ∧ c = false then .watching else .fired))
     ∧ (k.state = .undefined ∨ k.state = .disarmed ∨ k.state = .blanking → e = (k, false))
     ∧ (k.afterFiring.state = if k.bound = none ∧ k.defn.repeats = false then .disarmed else .fired))
  ∧ (∀ (s : State) (src : Source) (raw : BitVec 16) (order : List SampleUser) (w : WatchIx), s.running = true →
      s.watches[w.val].defn.source = src → (∀ k : WatchIx, k ≠ w → s.watches[k.val].defn.source ≠ src) →
      (∀ l, src = .flow l → s.checkRuns l = false) →
      (∀ h z, src = .pressure h z → s.heads[h.val].supervision ≠ .testing ∧ s.hub.sampled[(Source.place src).val] ≠ none) →
      let k := s.watches[w.val]
      let now := max s.now (s.sampleDue src)
      let v := s.sampleValue src raw.toNat
      let copied := if k.defn.copy = src then v else (s.reach (s.sampleDue src)).sourceValue k.defn.copy
      let n := min 65535 (k.firings + 1)
      let fired := Notice.watchFired w ((k.evaluate v now).1.prevAvg.getD 0) v k.defn.threshold k.bound k.defn.action
        (s.firingOutcome k.defn k.bound copied) n
      let told := s.link.notices ++ [fired]
      let target := k.defn.target
      (k.evaluate v now).2 = true →
      ∃ u, exec (.sourceSample src raw order) s = .next u ∧ u.now = now ∧ u.watches[w.val].firings = n ∧ u.watches[w.val].defn = k.defn
        ∧ (s.link.tx.isSome = true → s.link.notices.length < 32 → ∃ more, u.link.notices = told ++ more)
        ∧ (k.bound = none → (k.defn.action = .advance → ∀ z, src ≠ .pressure target z) →
            (u.watches[w.val].bound = none → u.watches[w.val].state = if k.defn.repeats then .fired else .disarmed)
            ∧ ∀ h, u.watches[w.val].bound = some h →
                k.defn.action = .advance ∧ h = target ∧ u.watches[w.val].state = if k.defn.blank = 0 then .watching else .blanking)
        ∧ (k.bound = none →
            (k.defn.action = .notify → u.heads = s.heads ∧ u.recs = s.recs ∧ u.latches = s.latches
              ∧ (s.link.tx.isSome = true → s.link.notices.length < 32 → u.link.notices = told))
            ∧ (∀ i b, k.defn.action = .latch → k.defn.dest = .latch i b →
              u.latches[i.val] = ⟨copied, some w⟩ ∧ (∀ j : LatchIx, j ≠ i → u.latches[j.val] = s.latches[j.val])
              ∧ u.heads = s.heads ∧ u.recs = s.recs ∧ (s.link.tx.isSome = true → s.link.notices.length < 32 → u.link.notices = told))
            ∧ (∀ h z, k.defn.action = .latch → k.defn.dest = .trim h z →
              u.heads = (s.modHead h fun d => d.modZone z fun c => { c with trim := max (-1000) (min 1000 copied) }).heads
              ∧ u.latches = s.latches ∧ u.recs = s.recs)
            ∧ (k.defn.action = .halt → u.latches = s.latches
              ∧ (s.heads[target.val].state = .halted → u.heads = s.heads)
              ∧ (s.heads[target.val].state ≠ .halted →
                u.heads[target.val].state = .halted ∧ u.heads[target.val].haltReason = some .watch
                ∧ (∀ h : HeadIx, h ≠ target → u.heads[h.val] = s.heads[h.val])
                ∧ (s.link.tx.isSome = true → s.link.notices.length + 3 ≤ 32 →
                    u.link.notices.getLast? = some (.headHalted target .watch none (some w)))))
            ∧ (k.defn.action = .advance → u.latches = s.latches
              ∧ (s.heads[target.val].state.isPressing = false → u.heads = s.heads)
              ∧ ∀ t, s.heads[target.val].state.isPressing = true → s.heads[target.val].step = some t → s.heads[target.val].WellKept →
                (∀ z, src ≠ .pressure target z) →
                s.Succession u target t s.heads[target.val].steps.tail
                ∧ (s.link.tx.isSome = true → s.link.notices.length + 2 ≤ 32 → ∃ more, u.link.notices = told ++
                    .stepEnd target t.label .advanced (now - s.heads[target.val].pressStart) s.heads[target.val].marginLimited
                      s.heads[target.val].endpoint :: more)))
        ∧ ∀ h t, k.bound = some h → s.heads[h.val].step = some t → s.heads[h.val].WellKept →
            let d := s.heads[h.val]
            let clock := now - d.pressStart
            let own := k.defn.action = .notify ∨ (k.defn.action = .advance ∧ target = h)
              ∨ (k.defn.action = .latch ∧ ∃ i b, k.defn.dest = .latch i b)
            (d.state = .pressing → t.overpolish ≠ 0 → ¬ (k.defn.action = .halt ∧ target = h) →
              u.heads[h.val].state = .overpolish ∧ u.heads[h.val].entered = now ∧ u.heads[h.val].endpoint = some clock
              ∧ u.heads[h.val].steps = d.steps ∧ u.watches[w.val].bound = some h ∧ u.watches[w.val].state = .fired)
            ∧ (d.state = .pressing → t.overpolish = 0 → own → (∀ z, src ≠ .pressure h z) →
              s.Succession u h t d.steps.tail
              ∧ (s.link.tx.isSome = true → s.link.notices.length + 2 ≤ 32 → ∃ more, u.link.notices = told ++
                  .stepEnd h t.label .endpoint clock d.marginLimited (some clock) :: more))
            ∧ (d.state.isPressing = true → k.defn.action = .halt → target = h →
              u.heads[h.val].state = .halted ∧ u.heads[h.val].haltReason = some .watch ∧ u.heads[h.val].steps = d.steps.tail
              ∧ u.watches[w.val].bound = none ∧ u.watches[w.val].state = .disarmed
              ∧ (s.link.tx.isSome = true → s.link.notices.length + 3 ≤ 32 → u.link.notices = told ++
                  [.stepEnd h t.label .halted clock d.marginLimited (if d.state = .pressing then some clock else d.endpoint),
                   .headHalted h .watch none (some w)]))
            ∧ (d.state = .overpolish → own → u.heads = s.heads ∧ u.watches[w.val].bound = some h ∧ u.watches[w.val].state = .fired)
            ∧ (∀ i b, k.defn.action = .latch → k.defn.dest = .latch i b → u.latches[i.val] = ⟨copied, some w⟩)
            ∧ (d.state.isPressing = true → target ≠ h → s.heads[target.val].WellKept → (∀ z, src ≠ .pressure h z ∧ src ≠ .pressure target z) →
              let other := s.heads[target.val]
              k.defn.action = .halt ∨ k.defn.action = .advance →
              ∃ v, v.now = now ∧ (∀ j : HeadIx, j ≠ h → v.heads[j.val] = s.heads[j.val])
                ∧ (d.state = .pressing → t.overpolish = 0 → s.Succession v h t d.steps.tail)
                ∧ (d.state = .pressing → t.overpolish ≠ 0 →
                    v.heads[h.val] = { d with state := .overpolish, entered := now, endpoint := some clock })
                ∧ (d.state = .overpolish → v.heads[h.val] = d)
                ∧ (k.defn.action = .halt →
                    (other.state = .halted → u.heads = v.heads)
                    ∧ (other.state ≠ .halted → v.EntersHalted u target .watch
                        ∧ (s.link.tx.isSome = true → s.link.notices.length + 6 ≤ 32 →
                            u.link.notices.getLast? = some (.headHalted target .watch none (some w)))))
                ∧ (k.defn.action = .advance →
                    (other.state.isPressing = false → u.heads = v.heads)
                    ∧ ∀ step, other.state.isPressing = true → other.step = some step → v.Succession u target step other.steps.tail
                        ∧ (s.link.tx.isSome = true → s.link.notices.length + 5 ≤ 32 → ∃ earlier more, u.link.notices = told ++ earlier ++
                            .stepEnd target step.label .advanced (now - other.pressStart) other.marginLimited other.endpoint :: more))))

/-! ### Signals -/

/-- INPUT-CAL, MONITOR-ROUTE and TRACE-SET: their checks, and what each replaces at its acceptance. A trace expiry with its gate open forms
one record of the present values and puts it into the slot, counting a record it replaces; with the gate closed it forms nothing; the timer
restarts in both cases, and the clock stands at the expiry (log entry 1). That TRACE-SET answers 0 records after gate OFF is log entry 8,
that its number is the wrapping record counter log entry 33. -/
def Obligations.SignalRequestsAndTraceTimer : Prop :=
  (∀ (s : State) (tag : Byte), s.isOpen = true →
     (∀ body k (c : InputCal), parseInputCal body = some (k, c) →
       (33 ≤ k ∨ c.rawHi ≤ c.rawLo → exec (.inputCal tag body) s = .next (s.replied 0x50 tag (.refuse .badValue)))
       ∧ ∀ i : ChanIx, k = i.val → c.rawLo < c.rawHi →
         let ch := s.hub.channels[i.val]
         let u := s.modHub fun u => { u with channels := u.channels.set i.val ⟨c, ch.raw, c.scale ch.raw⟩ }
         let reply := Response.ok (p2 ch.cal.rawLo ++ s4 ch.cal.vLo ++ p2 ch.cal.rawHi ++ s4 ch.cal.vHi)
         (20 ≤ i.val → exec (.inputCal tag body) s = .next (u.replied 0x50 tag reply))
         ∧ ∀ (h : HeadIx) (z : ZoneIx), i.val = 5 * h.val + z.val → i.val < 20 →
           exec (.inputCal tag body) s = .next ((u.modHead h fun d => d.modZone z fun c =>
             { c with offset := 0, drift := false }).replied 0x50 tag reply))
     ∧ (∀ body k id (lo hi : Int), parseRoute body = some (k, id, lo, hi) →
       (2 ≤ k ∨ sourceOf id = none ∨ lo = hi → exec (.monitorRoute tag body) s = .next (s.replied 0x52 tag (.refuse .badValue)))
       ∧ ∀ (o : MonIx) (src : Source), k = o.val → Source.id src = id → lo ≠ hi →
         let old := s.hub.monitors[o.val].route
         let code := (max 0 (min 4095 (((s.sourceValue src - lo) * 4095).tdiv (hi - lo)))).toNat
         exec (.monitorRoute tag body) s = .next ((s.modHub fun u =>
           { u with monitors := u.monitors.set o.val ⟨⟨src, lo, hi⟩, code⟩ }).replied 0x52 tag
             (.ok (p1 (Source.id old.source) ++ s4 old.zero ++ s4 old.full ++ p2 code))))
     ∧ ∀ body (q : TraceBody), parseTrace body = some q →
       (2 < q.gate ∨ 4 ≤ q.head ∨ 4 < q.count ∨ (∃ n ∈ q.sources, sourceOf n = none)
         ∨ (q.gate ≠ 0 ∧ (q.interval < 10 ∨ 10000 < q.interval ∨ q.interval % 10 ≠ 0 ∨ q.count = 0)) →
         exec (.traceSet tag body) s = .next (s.replied 0x53 tag (.refuse .badValue)))
       ∧ (∀ (h : HeadIx) (g : Gate), q.gate = g.code → g ≠ .off → q.head = h.val → q.count ≤ 4 →
           (∀ n ∈ q.sources, sourceOf n ≠ none) → 10 ≤ q.interval → q.interval ≤ 10000 → q.interval % 10 = 0 → q.count ≠ 0 →
           let t := s.hub.trace
           exec (.traceSet tag body) s = .next ((s.modHub fun u =>
             { u with trace := ⟨g, h, q.sources.filterMap sourceOf, q.interval, s.now, some (s.now + q.interval), 0⟩ }).replied 0x53
               tag (.ok (p1 t.gate.code ++ p2 (if t.gate = .off then 0 else t.counter)))))
       ∧ (∀ h : HeadIx, q.gate = 0 → q.head = h.val → q.count ≤ 4 → (∀ n ∈ q.sources, sourceOf n ≠ none) →
           ∃ u, exec (.traceSet tag body) s = .next u ∧ u.hub.trace.gate = .off ∧ u.hub.trace.due = none
             ∧ u.link.slot = s.link.slot ∧ u.hub.channels = s.hub.channels ∧ u.heads = s.heads
             ∧ (s.link.tx.isSome = true → u.link.replies = s.link.replies ++
                 [⟨0xD3, tag, [0, 0] ++ p1 s.hub.trace.gate.code ++ p2 (if s.hub.trace.gate = .off then 0 else s.hub.trace.counter)⟩])))
  ∧ (∀ (s : State) (due : Nat), s.running = true → s.hub.trace.due = some due → s.hub.trace.gate ≠ .off → s.link.tx.isSome = true →
      let t := s.hub.trace
      let isOpen := t.gate = .always ∨ s.heads[t.head.val].state.isPressing = true
      let n := (t.counter + 1) % 65536
      let now := max s.now due
      (¬ isOpen → exec .traceTimerExpiry s
          = .next ((s.reach due).modHub fun u => { u with trace := { u.trace with due := some (due + t.interval) } }))
      ∧ (isOpen → exec .traceTimerExpiry s
          = .next (((s.reach due).modHub fun u => { u with trace := { u.trace with due := some (due + t.interval), counter := n } }).modLink
              fun k => { k with slot := some (TraceRecord.mk n ((now - t.setAt) % 4294967296) t.gate t.head
                (match k.slot with | none => 0 | some r => min 255 (r.overwritten + 1))
                (t.sources.map (s.reach due).sourceValue)) })))

/-- A monitor output takes (v − zero) × 4095 / (full − zero), truncated and clamped, at each sample of its route's source, v being the
sample, and holds its code between them. A value at zero gives 0 and one at full 4095. A sample of a channel source replaces the channel's
raw code and scaled value, and one of a flow source is kept as that flow's latest. The clock stands at the moment of the sample (log entry
1). -/
def Obligations.MonitorsFollowTheirRoutes : Prop :=
  (∀ (r : Route) (v : Int), r.zero ≠ r.full →
    (r.codeOf v : Int) = max 0 (min 4095 (((v - r.zero) * 4095).tdiv (r.full - r.zero))) ∧ r.codeOf v ≤ 4095
    ∧ r.codeOf r.zero = 0 ∧ r.codeOf r.full = 4095
    ∧ (r.zero < r.full → (v ≤ r.zero → r.codeOf v = 0) ∧ (r.full ≤ v → r.codeOf v = 4095))
    ∧ (r.full < r.zero → (r.zero ≤ v → r.codeOf v = 0) ∧ (v ≤ r.full → r.codeOf v = 4095)))
  ∧ ∀ (s : State) (src : Source) (raw : BitVec 16) (order : List SampleUser), s.running = true →
      let v := s.sampleValue src raw.toNat
      ∃ u, exec (.sourceSample src raw order) s = .next u ∧ u.now = max s.now (s.sampleDue src)
        ∧ u.hub.sampled[(Source.place src).val] = some (s.sampleDue src)
        ∧ (∀ i, Source.channel src = some i → u.hub.channels[i.val].raw = raw.toNat
            ∧ u.hub.channels[i.val].scaled = s.hub.channels[i.val].cal.scale raw.toNat)
        ∧ (∀ i : ChanIx, Source.channel src ≠ some i → u.hub.channels[i.val] = s.hub.channels[i.val])
        ∧ (∀ l : LineIx, u.hub.flows[l.val] = if src = .flow l then v else s.hub.flows[l.val])
        ∧ ∀ o : MonIx, u.hub.monitors[o.val].route = s.hub.monitors[o.val].route
            ∧ (s.hub.monitors[o.val].route.source = src → u.hub.monitors[o.val].code = s.hub.monitors[o.val].route.codeOf v)
            ∧ (s.hub.monitors[o.val].route.source ≠ src → u.hub.monitors[o.val].code = s.hub.monitors[o.val].code)

/-- The checks a sample feeds: a supervised zone that has deviated for the deviation time halts its head with PRESSURE-DEVIATION, a line
whose flow has been wrong for the fault time enters FAULTED, closes its live doses with LINE-FAULT, halts the heads that lose theirs and
posts LINE-FAULT, a dwell gathers its torque samples. No watch is on the source here. The clock stands at the moment of the sample (log
entry 1). -/
def Obligations.SamplesFeedSupervisionFlowCheckAndDwell : Prop :=
  ∀ (s : State) (raw : BitVec 16) (order : List SampleUser), s.running = true →
    (∀ (h : HeadIx) (z : ZoneIx) (since : Nat), (∀ w : WatchIx, s.watches[w.val].defn.source ≠ .pressure h z) →
      s.heads[h.val].supervision = .testing → s.heads[h.val].state ≠ .halted →
      let d := s.heads[h.val]
      let c := d.zones[z.val]
      let now := max s.now (s.sampleDue (.pressure h z))
      let v := max (-2147483648) (min 2147483647 (s.hub.channels[5 * h.val + z.val].cal.scale raw.toNat - c.offset))
      let deviates := d.limits.deviationTolerance < (v - c.command).natAbs
      ∃ u, exec (.sourceSample (.pressure h z) raw order) s = .next u
        ∧ (¬ deviates → u.heads[h.val].zones[z.val].deviating = none ∧ u.heads[h.val].state = d.state)
        ∧ (deviates → c.deviating = none → 0 < d.limits.deviationTime →
            u.heads[h.val].zones[z.val].deviating = some now ∧ u.heads[h.val].state = d.state)
        ∧ (deviates → c.deviating = some since → now - since < d.limits.deviationTime →
            u.heads[h.val].zones[z.val].deviating = some since ∧ u.heads[h.val].state = d.state)
        ∧ (deviates → c.deviating = some since → d.limits.deviationTime ≤ now - since →
            u.heads[h.val].state = .halted ∧ u.heads[h.val].haltReason = some .pressureDeviation))
    ∧ (∀ (l : LineIx) (since : Nat), (∀ w : WatchIx, s.watches[w.val].defn.source ≠ .flow l) → s.checkRuns l = true →
      let c := s.lines[l.val]
      let now := max s.now (s.sampleDue (.flow l))
      let v := s.hub.channels[29 + l.val].cal.scale raw.toNat
      let e := s.pumpRate l
      let wrong := (e = 0 ∧ 50 < v) ∨ (0 < e ∧ e * c.config.tolerance / 100 < (v - e).natAbs)
      ∃ u, exec (.sourceSample (.flow l) raw order) s = .next u
        ∧ (¬ wrong → u.lines[l.val] = { c with faultSince := none })
        ∧ (wrong → c.faultSince = none → 0 < c.config.faultTime → u.lines[l.val] = { c with faultSince := some now })
        ∧ (wrong → c.faultSince = some since → c.config.faultTime ≤ now - since →
            u.lines[l.val].state = .faulted ∧ u.lines[l.val].admitted = c.admitted
            ∧ u.lines[l.val].primeDue = none ∧ u.lines[l.val].faultSince = none ∧ (s.PoolWellKept → u.lines[l.val].queues = c.queues)
            ∧ (∀ r ∈ c.admitted, u.recs[r.val].state.live = false
                ∧ (s.recs[r.val].state.live = true → s.PoolWellKept →
                    u.recs[r.val] = { s.recs[r.val] with state := .closing, reason := some .lineFault, since := now }))
            ∧ (∀ (h : HeadIx) r, s.heads[h.val].dose = some r → r ∈ c.admitted → s.recs[r.val].state.live = true → s.PoolWellKept →
                s.heads[h.val].state.works = true → u.heads[h.val].state = .halted ∧ u.heads[h.val].haltReason = some .slurryLost)
            ∧ (s.link.tx.isSome = true → s.link.notices.length + 9 ≤ 32 →
                let live := c.admitted.filter fun r => s.recs[r.val].state == .opening || s.recs[r.val].state == .flowing
                u.link.notices.getLast? = some (.lineFault l c.state e v live.length))))
    ∧ ∀ p : PlatenIx, (∀ w : WatchIx, s.watches[w.val].defn.source ≠ .torque p) →
      ∃ u, exec (.sourceSample (.torque p) raw order) s = .next u ∧ u.heads = s.heads ∧ u.lines = s.lines
        ∧ (s.conds[p.val].arm = .sweeping →
            u.conds[p.val].torqueSum = s.conds[p.val].torqueSum + s.hub.channels[26 + p.val].cal.scale raw.toNat
            ∧ u.conds[p.val].torqueCount = s.conds[p.val].torqueCount + 1)
        ∧ (s.conds[p.val].arm ≠ .sweeping → u.conds = s.conds)

/-! ### Carousel -/

/-- INDEX-REQUEST makes its checks in order; accepted, it takes the settings it names, records its start, and stands in PENDING until every
head is index-ready, or passes to LIFTING at once, where every conditioner is emptied and sent up with INDEX. LIFTING ends at its timer, or
at the stow of the last conditioner after it, in DEPARTING or ARRIVING by the level of IN-POSITION; the fall and the rise carry the index
through to its arrival: DONE one past the start, where the carousel is IDLE and each waiting head is told, and a fault elsewhere; the index
timer ends it in FAULT with its position kept. A timer's expiry finds the clock at its moment (log entry 1). A change that leaves
IN-POSITION as it was moves POS alone (log entry 15). -/
def Obligations.IndexRunsFromRequestToArrivalOrFault : Prop :=
  (∀ (s : State) (tag : Byte) (body : List Byte) (lift timeout : Nat), s.isOpen = true → parseIndex body = some (lift, timeout) →
     let ok := (lift = 0 ∨ (500 ≤ lift ∧ lift ≤ 5000)) ∧ (timeout = 0 ∨ (1000 ≤ timeout ∧ timeout ≤ 20000))
     let a := if lift = 0 then s.car.liftTime else lift
     let b := if timeout = 0 then s.car.indexTimeout else timeout
     let c : Carousel := { s.car with liftTime := a, indexTimeout := b, start := s.car.position, acceptedAt := s.now, state := .pending }
     (¬ ok → exec (.indexRequest tag body) s = .next (s.replied 0x58 tag (.refuse .badValue)))
     ∧ (ok → s.stop = true → exec (.indexRequest tag body) s = .next (s.replied 0x58 tag (.refuse .stopped)))
     ∧ (ok → s.stop = false → s.car.state ≠ .idle →
         exec (.indexRequest tag body) s = .next (s.replied 0x58 tag (.refuse .wrongState)))
     ∧ (ok → s.stop = false → s.car.state = .idle → (∃ h : HeadIx, s.heads[h.val].indexReady = false) →
         exec (.indexRequest tag body) s = .next ({ s with car := c }.replied 0x58 tag
           (.ok (p1 1 ++ p1 s.car.position.val ++ p2 a ++ p2 b))))
     ∧ (ok → s.stop = false → s.car.state = .idle → (∀ h : HeadIx, s.heads[h.val].indexReady = true) →
         ∃ conds, exec (.indexRequest tag body) s = .next
             ({ s with conds := conds, car := { c with state := .lifting, liftStart := s.now, lifted := false } }.replied 0x58 tag
               (.ok (p1 2 ++ p1 s.car.position.val ++ p2 a ++ p2 b)))
           ∧ ∀ p : PlatenIx, conds[p.val].unheld = true
               ∧ (conds[p.val].arm = if s.conds[p.val].arm = .stowed then .stowed else .raising)
               ∧ (s.conds[p.val].arm ≠ .stowed → conds[p.val].endReason = some .index)))
  ∧ (∀ s : State, s.running = true →
      (s.car.state = .lifting → s.car.lifted = false →
        let t := s.car.liftStart + s.car.liftTime
        ((∃ p : PlatenIx, s.conds[p.val].arm ≠ .stowed) →
          exec .liftTimerExpiry s = .next ((s.reach t).modCar fun c => { c with lifted := true }))
        ∧ ((∀ p : PlatenIx, s.conds[p.val].arm = .stowed) →
          exec .liftTimerExpiry s = .next ((s.reach t).modCar fun c =>
            { c with lifted := true, state := .moving, moveStart := max s.now t,
                     phase := if s.inPosition then .departing else .arriving })))
      ∧ (s.car.state ≠ .lifting → exec .liftTimerExpiry s = .next s)
      ∧ (∀ (level : Bool) (pos : Station),
        let w := { s with inPosition := level, pos := pos }
        (s.car.state ≠ .moving ∨ level = s.inPosition → exec (.inPositionChange level pos) s = .next w)
        ∧ (s.car.state = .moving → s.inPosition = true → level = false →
            exec (.inPositionChange level pos) s = .next (if s.car.phase = .departing then w.modCar fun c => { c with phase := .arriving } else w))
        ∧ (s.car.state = .moving → s.inPosition = false → level = true → s.car.phase = .departing →
            exec (.inPositionChange level pos) s = .next w)
        ∧ (s.car.state = .moving → s.inPosition = false → level = true → s.car.phase = .arriving → pos ≠ s.car.start + 1 →
            exec (.inPositionChange level pos) s = .next ((w.modCar fun c =>
              { c with state := .fault, last := some .misposition }).post
                (.indexFault (.misposition pos) s.car.position .arriving (s.now - s.car.moveStart))))
        ∧ (s.car.state = .moving → s.inPosition = false → level = true → s.car.phase = .arriving → pos = s.car.start + 1 →
            ∃ u, exec (.inPositionChange level pos) s = .next u
              ∧ u.car = { s.car with position := pos, state := .idle, last := some .done }
              ∧ (∃ more, s.link.tx.isSome = true → s.link.notices.length < 32 → u.link.notices = s.link.notices ++
                  .indexEnd .done s.car.start pos .moving (min 4294967295 (s.now - s.car.acceptedAt)) :: more)
              ∧ (∀ h : HeadIx, s.heads[h.val].state ≠ .armed ∨ s.heads[h.val].indexMark = false → u.heads[h.val] = s.heads[h.val])
              ∧ ∀ (h : HeadIx) t, s.heads[h.val].state = .armed → s.heads[h.val].indexMark = true → s.heads[h.val].step = some t →
                  ((h.val + pos.val) % 4 ≠ t.platen.val + 1 → u.heads[h.val].state = .halted ∧ u.heads[h.val].haltReason = some .wrongStation)
                  ∧ ((h.val + pos.val) % 4 = t.platen.val + 1 →
                      (s.platens[t.platen.val].mode ≠ .polishing ∨ s.heads[h.val].snapshot ≠ [] →
                        u.heads[h.val] = { s.heads[h.val] with indexMark := false })
                      ∧ (s.platens[t.platen.val].mode = .polishing → s.heads[h.val].snapshot = [] → s.PoolWellKept →
                        s.LeavesArmed u h t))))
      ∧ (∀ p : PlatenIx, s.car.state = .lifting → s.conds[p.val].arm = .raising → s.conds[p.val].unheld = true →
          ∃ u, exec (.condRaisingEnd p) s = .next u ∧ u.now = max s.now (s.conds[p.val].entered + 600)
            ∧ u.conds[p.val] = { s.conds[p.val] with arm := .stowed }
            ∧ (s.car.lifted = true → (∀ k : PlatenIx, k ≠ p → s.conds[k.val].arm = .stowed) →
                u.car = { s.car with state := .moving, moveStart := u.now, phase := if s.inPosition then .departing else .arriving })
            ∧ (s.car.lifted = false ∨ (∃ k : PlatenIx, k ≠ p ∧ s.conds[k.val].arm ≠ .stowed) → u.car = s.car))
      ∧ (s.car.state = .moving → exec .indexTimerExpiry s = .next
          (((s.reach (s.car.moveStart + s.car.indexTimeout)).modCar fun c => { c with state := .fault, last := some .timeout }).post
            (.indexFault .timeout s.car.position s.car.phase (max s.now (s.car.moveStart + s.car.indexTimeout) - s.car.moveStart))))
      ∧ (s.car.state ≠ .moving → exec .indexTimerExpiry s = .next s))

/-- INDEX-CANCEL is accepted in PENDING alone: the carousel is IDLE, INDEX-END tells ABANDONED and HOST, the position and every head are
as before. -/
def Obligations.IndexCancelAbandonsAPendingIndex : Prop :=
  ∀ (s : State) (tag : Byte), s.isOpen = true →
    (s.car.state ≠ .pending → exec (.indexCancel tag []) s = .next (s.replied 0x59 tag (.refuse .wrongState)))
    ∧ (s.car.state = .pending → ∃ u, exec (.indexCancel tag []) s = .next u
        ∧ u.car = { s.car with state := .idle, last := some .abandoned } ∧ u.heads = s.heads ∧ u.conds = s.conds ∧ u.recs = s.recs
        ∧ (s.link.tx.isSome = true → u.link.replies = s.link.replies ++ [⟨0xD9, tag, [0, 0]⟩]
            ∧ (s.link.notices.length < 32 → u.link.notices = s.link.notices ++
                [.indexEnd .abandonedHost s.car.start s.car.position .pending (min 4294967295 (s.now - s.car.acceptedAt))])))

/-- INDEX-RESYNC is accepted in FAULT with IN-POSITION asserted alone: the position becomes POS and the carousel is IDLE; no notice is posted
and no head is told. -/
def Obligations.IndexResyncTakesThePositionFromPos : Prop :=
  ∀ (s : State) (tag : Byte), s.isOpen = true →
    (s.car.state ≠ .fault → exec (.indexResync tag []) s = .next (s.replied 0x5A tag (.refuse .wrongState)))
    ∧ (s.car.state = .fault → s.inPosition = false →
        exec (.indexResync tag []) s = .next (s.replied 0x5A tag (.refuse .notInPosition)))
    ∧ (s.car.state = .fault → s.inPosition = true → exec (.indexResync tag []) s = .next
        ((s.modCar fun c => { c with state := .idle, position := s.pos }).replied 0x5A tag (.ok [b1 s.car.position.val, b1 s.pos.val])))

/-- The law of the interlock: while the carousel lifts, moves or stands in FAULT every head is index-ready and no conditioner is held or
down, and in MOVING every conditioner is STOWED; INDEX-PERMIT is asserted in MOVING alone. -/
def Obligations.LawOfTheInterlockIsKept : Prop :=
  ∀ s t : State, s.InterlockLaw → step s = .next t → t.InterlockLaw ∧ (t.indexPermit = true ↔ t.car.state = .moving)

/-! ### Admission -/

/-- The class choice and the admission, on a line whose weights are at least 1 (R83). The candidate of a class is the oldest eligible record
of its queue. A WEIGHTED line chooses the highest class with a candidate and a credit; with candidates in classes without credit alone it
reloads the four credits to the weights and chooses again. An attempt of a line that may not admit, or that has no candidate, admits
nothing; a candidate that does not fit its line's capacity or its platen's flow limit stops it; one that fits is admitted and the attempt
goes on: the record leaves its queue for the tail of the admitted set in OPENING, its peak is added to both reservations, a WEIGHTED line
spends a credit, a priming ends, the platen's next-line pointer stands past the line, and the fault timer of a line whose flow check does
not run is cleared. -/
def Obligations.AttemptAdmitsByClassCreditAndBudget : Prop :=
  ∀ (s : State) (l : LineIx), (∀ k : ClassIx, 0 < s.lines[l.val].config.weights[k.val]) →
    let c := s.lines[l.val]
    (∀ (k : ClassIx) (r : RecIx), s.candidate l k = some r ↔
        ∃ before after, c.queues[k.val] = before ++ r :: after ∧ s.eligible r = true ∧ ∀ x ∈ before, s.eligible x = false)
    ∧ (∀ r p, s.recs[r.val].platen = some p → (s.eligible r = true ↔
        2 ≤ s.platens[p.val].mode.code ∨ (s.platens[p.val].mode.code = 1 ∧ s.recs[r.val].service = true)))
    ∧ ((s.choose l).2 = none ↔ ∀ k : ClassIx, s.candidate l k = none)
    ∧ (c.config.scheme = .weighted →
        ((∃ k : ClassIx, s.candidate l k ≠ none ∧ 0 < c.credits[k.val]) →
          ∃ k r, s.choose l = (s, some (k, r)) ∧ s.candidate l k = some r ∧ 0 < c.credits[k.val]
            ∧ ∀ j : ClassIx, k < j → s.candidate l j = none ∨ c.credits[j.val] = 0)
        ∧ ((∀ k : ClassIx, s.candidate l k ≠ none → c.credits[k.val] = 0) → ∀ k r, s.candidate l k = some r →
          (∀ j : ClassIx, k < j → s.candidate l j = none) →
          s.choose l = (s.modLine l fun n => { n with credits := n.config.weights }, some (k, r))))
    ∧ (s.admits l = true ↔ (c.state = .ready ∨ c.state = .priming) ∧ s.stop = false)
    ∧ (s.admits l = false → s.attempt l = s.modLine l fun n => { n with stoppedAt := none })
    ∧ (s.admits l = true →
        let v := (s.choose l).1.modLine l fun n => { n with stoppedAt := none }
        ((s.choose l).2 = none → s.attempt l = v)
        ∧ ∀ k r p, (s.choose l).2 = some (k, r) → s.recs[r.val].platen = some p →
          let d := s.recs[r.val].peak
          let fits := c.reservation + d ≤ c.config.capacity ∧ s.platens[p.val].reservation + d ≤ s.platens[p.val].config.flowLimit
          (¬ fits → s.attempt l = v.modLine l fun n => { n with stoppedAt := some r })
          ∧ (fits →
            let w := v.modLine l fun n =>
              { n with
                queues := n.queues.set k.val (n.queues[k.val].erase r)
                admitted := n.admitted ++ [r]
                reservation := n.reservation + d
                credits := if c.config.scheme = .weighted then n.credits.set k.val (n.credits[k.val] - 1) else n.credits
                state := .ready
                primeDue := if c.state = .priming then none else n.primeDue
                faultSince := if c.admitted.any (fun x => x != r && s.recs[x.val].state == .flowing) then n.faultSince else none }
            s.attempt l = ((w.modPlaten p fun n => { n with reservation := n.reservation + d, nextLine := l + 1 }).modRec r fun e =>
              { e with state := .opening, since := s.now }).attempt l))
end

