-- ==== Sys2Proof/Laws/Arith.lean ====
section
/-! SUPPORT. The arithmetic of 00_scope.md, 4.4, said once: clamping, rounding, indexes read from bytes. -/

namespace Sys2Proof.Machine

/-- Clamping is the larger of the lower bound and the smaller of the upper bound and the value. -/
theorem clampInt_eq {lo hi : Int} (h : lo ≤ hi) (x : Int) : clampInt lo hi x = max lo (min hi x) := by
  unfold clampInt
  split
  · omega
  · split <;> omega

/-- A clamped value lies within its bounds. -/
theorem clampInt_mem {lo hi : Int} (h : lo ≤ hi) (x : Int) : lo ≤ clampInt lo hi x ∧ clampInt lo hi x ≤ hi := by
  rw [clampInt_eq h]
  omega

/-- A value within the bounds is not changed. -/
theorem clampInt_of_mem {lo hi x : Int} (h : lo ≤ x) (k : x ≤ hi) : clampInt lo hi x = x := by
  rw [clampInt_eq (by omega)]
  omega

theorem clamp32_eq (x : Int) : clamp32 x = max (-2147483648) (min 2147483647 x) := clampInt_eq (by decide) x

/-- The greatest command of a zone is not negative. -/
theorem zoneMax_nonneg (z : ZoneIx) : 0 ≤ zoneMax z := by
  unfold zoneMax
  split <;> decide

/-- Stage 3 puts a value into the range of its zone. -/
theorem stage3_mem (z : ZoneIx) (x : Int) : 0 ≤ stage3 z x ∧ stage3 z x ≤ zoneMax z := clampInt_mem (zoneMax_nonneg z) x

/-- The rounded quotient of a number that is not negative. -/
theorem roundDiv_of_nonneg {n : Int} (h : 0 ≤ n) (d : Nat) : roundDiv n d = (((2 * n.natAbs + d) / (2 * d) : Nat) : Int) := by
  simp [roundDiv, h]

/-- The rounded quotient of a negative number. -/
theorem roundDiv_of_neg {n : Int} (h : n < 0) (d : Nat) : roundDiv n d = -(((2 * n.natAbs + d) / (2 * d) : Nat) : Int) := by
  simp [roundDiv, Int.not_le.mpr h]

/-- A quotient rounded to nearest is at most half a divisor off. -/
theorem roundDiv_error (n : Int) {d : Nat} (h : 0 < d) : 2 * (n - roundDiv n d * d).natAbs ≤ d := by
  have key : ∀ m : Nat, 2 * ((m : Int) - (((2 * m + d) / (2 * d) : Nat) : Int) * d).natAbs ≤ d := fun m => by
    have h1 := Nat.div_add_mod (2 * m + d) (2 * d)
    have h2 := Nat.mod_lt (2 * m + d) (show 0 < 2 * d by omega)
    generalize (2 * m + d) / (2 * d) = q at *
    generalize (2 * m + d) % (2 * d) = r at *
    have h3 : (2 * (d : Int)) * q + r = 2 * m + d := by exact_mod_cast h1
    have h4 : (q : Int) * d * 2 = 2 * m + d - r := by linarith
    have h5 : (r : Int) < 2 * d := by exact_mod_cast h2
    omega
  rcases Int.lt_or_le n 0 with hn | hn
  · rw [roundDiv_of_neg hn]
    have := key n.natAbs
    have e : ((n.natAbs : Nat) : Int) = -n := by omega
    rw [e] at this
    have e2 : n - -(((2 * n.natAbs + d) / (2 * d) : Nat) : Int) * d
        = -(-n - (((2 * n.natAbs + d) / (2 * d) : Nat) : Int) * d) := by ring
    rw [e2, Int.natAbs_neg]
    exact this
  · rw [roundDiv_of_nonneg hn]
    have := key n.natAbs
    rwa [Int.natAbs_of_nonneg hn] at this

/-! ### Indexes -/

@[simp] theorem toIx_val {k : Nat} (i : Fin k) : toIx k i.val = some i := by simp [toIx]

/-- There is an index exactly below the bound. -/
theorem toIx_none {k n : Nat} (h : k ≤ n) : toIx k n = none := by simp [toIx, Nat.not_lt.mpr h]

theorem toIx_some {k n : Nat} {i : Fin k} (h : toIx k n = some i) : i.val = n := by
  unfold toIx at h
  split at h
  · cases h; rfl
  · cases h

@[simp] theorem toPlaten_succ (p : PlatenIx) : toPlaten (p.val + 1) = some p := by simp [toPlaten]

/-- Platens are numbered 1 to 3. -/
theorem toPlaten_none {n : Nat} (h : n = 0 ∨ 3 < n) : toPlaten n = none := by
  unfold toPlaten
  split
  · rfl
  · exact toIx_none (by omega)

theorem toPlaten_some {n : Nat} {p : PlatenIx} (h : toPlaten n = some p) : n = p.val + 1 := by
  unfold toPlaten at h
  split at h
  · cases h
  · have := toIx_some h
    omega

/-- A byte carries every number below 256. -/
theorem toNat_b1 {n : Nat} (h : n < 256) : (b1 n).toNat = n := by
  simp [b1, Nat.mod_eq_of_lt h]

end Sys2Proof.Machine
end

