-- ==== Sys2Proof/Laws/State.lean ====
section
/-! SUPPORT. What each updater of the state does to each field: the field it is named after changes as it says, every other field is as
before. All by rfl, so that no proof unfolds a record update. -/

namespace Sys2Proof.Machine

section modHead

variable (s : State) (i : HeadIx) (f : Head → Head)

@[simp] theorem State.modHead_pending : (s.modHead i f).pending = s.pending := rfl
@[simp] theorem State.modHead_now : (s.modHead i f).now = s.now := rfl
@[simp] theorem State.modHead_power : (s.modHead i f).power = s.power := rfl
@[simp] theorem State.modHead_restart : (s.modHead i f).restart = s.restart := rfl
@[simp] theorem State.modHead_stop : (s.modHead i f).stop = s.stop := rfl
@[simp] theorem State.modHead_inPosition : (s.modHead i f).inPosition = s.inPosition := rfl
@[simp] theorem State.modHead_pos : (s.modHead i f).pos = s.pos := rfl
@[simp] theorem State.modHead_heads : (s.modHead i f).heads = s.heads.set i.val (f s.heads[i.val]) := rfl
@[simp] theorem State.modHead_recs : (s.modHead i f).recs = s.recs := rfl
@[simp] theorem State.modHead_free : (s.modHead i f).free = s.free := rfl
@[simp] theorem State.modHead_counter : (s.modHead i f).counter = s.counter := rfl
@[simp] theorem State.modHead_lines : (s.modHead i f).lines = s.lines := rfl
@[simp] theorem State.modHead_platens : (s.modHead i f).platens = s.platens := rfl
@[simp] theorem State.modHead_conds : (s.modHead i f).conds = s.conds := rfl
@[simp] theorem State.modHead_wears : (s.modHead i f).wears = s.wears := rfl
@[simp] theorem State.modHead_watches : (s.modHead i f).watches = s.watches := rfl
@[simp] theorem State.modHead_latches : (s.modHead i f).latches = s.latches := rfl
@[simp] theorem State.modHead_car : (s.modHead i f).car = s.car := rfl
@[simp] theorem State.modHead_hub : (s.modHead i f).hub = s.hub := rfl
@[simp] theorem State.modHead_store : (s.modHead i f).store = s.store := rfl
@[simp] theorem State.modHead_link : (s.modHead i f).link = s.link := rfl
@[simp] theorem State.modHead_draws : (s.modHead i f).draws = s.draws := rfl

/-- The head named is changed. -/
theorem State.modHead_get : (s.modHead i f).heads[i.val] = f s.heads[i.val] := by simp

/-- Every other head is as before. -/
theorem State.modHead_get_ne (k : HeadIx) (ne : k ≠ i) : (s.modHead i f).heads[k.val] = s.heads[k.val] := by
  have : i.val ≠ k.val := fun e => ne (Fin.ext e.symm)
  simp [Vector.getElem_set_ne, this]

end modHead

section modRec

variable (s : State) (i : RecIx) (f : DoseRec → DoseRec)

@[simp] theorem State.modRec_pending : (s.modRec i f).pending = s.pending := rfl
@[simp] theorem State.modRec_now : (s.modRec i f).now = s.now := rfl
@[simp] theorem State.modRec_power : (s.modRec i f).power = s.power := rfl
@[simp] theorem State.modRec_restart : (s.modRec i f).restart = s.restart := rfl
@[simp] theorem State.modRec_stop : (s.modRec i f).stop = s.stop := rfl
@[simp] theorem State.modRec_inPosition : (s.modRec i f).inPosition = s.inPosition := rfl
@[simp] theorem State.modRec_pos : (s.modRec i f).pos = s.pos := rfl
@[simp] theorem State.modRec_heads : (s.modRec i f).heads = s.heads := rfl
@[simp] theorem State.modRec_recs : (s.modRec i f).recs = s.recs.set i.val (f s.recs[i.val]) := rfl
@[simp] theorem State.modRec_free : (s.modRec i f).free = s.free := rfl
@[simp] theorem State.modRec_counter : (s.modRec i f).counter = s.counter := rfl
@[simp] theorem State.modRec_lines : (s.modRec i f).lines = s.lines := rfl
@[simp] theorem State.modRec_platens : (s.modRec i f).platens = s.platens := rfl
@[simp] theorem State.modRec_conds : (s.modRec i f).conds = s.conds := rfl
@[simp] theorem State.modRec_wears : (s.modRec i f).wears = s.wears := rfl
@[simp] theorem State.modRec_watches : (s.modRec i f).watches = s.watches := rfl
@[simp] theorem State.modRec_latches : (s.modRec i f).latches = s.latches := rfl
@[simp] theorem State.modRec_car : (s.modRec i f).car = s.car := rfl
@[simp] theorem State.modRec_hub : (s.modRec i f).hub = s.hub := rfl
@[simp] theorem State.modRec_store : (s.modRec i f).store = s.store := rfl
@[simp] theorem State.modRec_link : (s.modRec i f).link = s.link := rfl
@[simp] theorem State.modRec_draws : (s.modRec i f).draws = s.draws := rfl

/-- The dose record named is changed. -/
theorem State.modRec_get : (s.modRec i f).recs[i.val] = f s.recs[i.val] := by simp

/-- Every other dose record is as before. -/
theorem State.modRec_get_ne (k : RecIx) (ne : k ≠ i) : (s.modRec i f).recs[k.val] = s.recs[k.val] := by
  have : i.val ≠ k.val := fun e => ne (Fin.ext e.symm)
  simp [Vector.getElem_set_ne, this]

end modRec

section modLine

variable (s : State) (i : LineIx) (f : Line → Line)

@[simp] theorem State.modLine_pending : (s.modLine i f).pending = s.pending := rfl
@[simp] theorem State.modLine_now : (s.modLine i f).now = s.now := rfl
@[simp] theorem State.modLine_power : (s.modLine i f).power = s.power := rfl
@[simp] theorem State.modLine_restart : (s.modLine i f).restart = s.restart := rfl
@[simp] theorem State.modLine_stop : (s.modLine i f).stop = s.stop := rfl
@[simp] theorem State.modLine_inPosition : (s.modLine i f).inPosition = s.inPosition := rfl
@[simp] theorem State.modLine_pos : (s.modLine i f).pos = s.pos := rfl
@[simp] theorem State.modLine_heads : (s.modLine i f).heads = s.heads := rfl
@[simp] theorem State.modLine_recs : (s.modLine i f).recs = s.recs := rfl
@[simp] theorem State.modLine_free : (s.modLine i f).free = s.free := rfl
@[simp] theorem State.modLine_counter : (s.modLine i f).counter = s.counter := rfl
@[simp] theorem State.modLine_lines : (s.modLine i f).lines = s.lines.set i.val (f s.lines[i.val]) := rfl
@[simp] theorem State.modLine_platens : (s.modLine i f).platens = s.platens := rfl
@[simp] theorem State.modLine_conds : (s.modLine i f).conds = s.conds := rfl
@[simp] theorem State.modLine_wears : (s.modLine i f).wears = s.wears := rfl
@[simp] theorem State.modLine_watches : (s.modLine i f).watches = s.watches := rfl
@[simp] theorem State.modLine_latches : (s.modLine i f).latches = s.latches := rfl
@[simp] theorem State.modLine_car : (s.modLine i f).car = s.car := rfl
@[simp] theorem State.modLine_hub : (s.modLine i f).hub = s.hub := rfl
@[simp] theorem State.modLine_store : (s.modLine i f).store = s.store := rfl
@[simp] theorem State.modLine_link : (s.modLine i f).link = s.link := rfl
@[simp] theorem State.modLine_draws : (s.modLine i f).draws = s.draws := rfl

/-- The line named is changed. -/
theorem State.modLine_get : (s.modLine i f).lines[i.val] = f s.lines[i.val] := by simp

/-- Every other line is as before. -/
theorem State.modLine_get_ne (k : LineIx) (ne : k ≠ i) : (s.modLine i f).lines[k.val] = s.lines[k.val] := by
  have : i.val ≠ k.val := fun e => ne (Fin.ext e.symm)
  simp [Vector.getElem_set_ne, this]

end modLine

section modPlaten

variable (s : State) (i : PlatenIx) (f : Platen → Platen)

@[simp] theorem State.modPlaten_pending : (s.modPlaten i f).pending = s.pending := rfl
@[simp] theorem State.modPlaten_now : (s.modPlaten i f).now = s.now := rfl
@[simp] theorem State.modPlaten_power : (s.modPlaten i f).power = s.power := rfl
@[simp] theorem State.modPlaten_restart : (s.modPlaten i f).restart = s.restart := rfl
@[simp] theorem State.modPlaten_stop : (s.modPlaten i f).stop = s.stop := rfl
@[simp] theorem State.modPlaten_inPosition : (s.modPlaten i f).inPosition = s.inPosition := rfl
@[simp] theorem State.modPlaten_pos : (s.modPlaten i f).pos = s.pos := rfl
@[simp] theorem State.modPlaten_heads : (s.modPlaten i f).heads = s.heads := rfl
@[simp] theorem State.modPlaten_recs : (s.modPlaten i f).recs = s.recs := rfl
@[simp] theorem State.modPlaten_free : (s.modPlaten i f).free = s.free := rfl
@[simp] theorem State.modPlaten_counter : (s.modPlaten i f).counter = s.counter := rfl
@[simp] theorem State.modPlaten_lines : (s.modPlaten i f).lines = s.lines := rfl
@[simp] theorem State.modPlaten_platens : (s.modPlaten i f).platens = s.platens.set i.val (f s.platens[i.val]) := rfl
@[simp] theorem State.modPlaten_conds : (s.modPlaten i f).conds = s.conds := rfl
@[simp] theorem State.modPlaten_wears : (s.modPlaten i f).wears = s.wears := rfl
@[simp] theorem State.modPlaten_watches : (s.modPlaten i f).watches = s.watches := rfl
@[simp] theorem State.modPlaten_latches : (s.modPlaten i f).latches = s.latches := rfl
@[simp] theorem State.modPlaten_car : (s.modPlaten i f).car = s.car := rfl
@[simp] theorem State.modPlaten_hub : (s.modPlaten i f).hub = s.hub := rfl
@[simp] theorem State.modPlaten_store : (s.modPlaten i f).store = s.store := rfl
@[simp] theorem State.modPlaten_link : (s.modPlaten i f).link = s.link := rfl
@[simp] theorem State.modPlaten_draws : (s.modPlaten i f).draws = s.draws := rfl

/-- The platen named is changed. -/
theorem State.modPlaten_get : (s.modPlaten i f).platens[i.val] = f s.platens[i.val] := by simp

/-- Every other platen is as before. -/
theorem State.modPlaten_get_ne (k : PlatenIx) (ne : k ≠ i) : (s.modPlaten i f).platens[k.val] = s.platens[k.val] := by
  have : i.val ≠ k.val := fun e => ne (Fin.ext e.symm)
  simp [Vector.getElem_set_ne, this]

end modPlaten

section modCond

variable (s : State) (i : PlatenIx) (f : Conditioner → Conditioner)

@[simp] theorem State.modCond_pending : (s.modCond i f).pending = s.pending := rfl
@[simp] theorem State.modCond_now : (s.modCond i f).now = s.now := rfl
@[simp] theorem State.modCond_power : (s.modCond i f).power = s.power := rfl
@[simp] theorem State.modCond_restart : (s.modCond i f).restart = s.restart := rfl
@[simp] theorem State.modCond_stop : (s.modCond i f).stop = s.stop := rfl
@[simp] theorem State.modCond_inPosition : (s.modCond i f).inPosition = s.inPosition := rfl
@[simp] theorem State.modCond_pos : (s.modCond i f).pos = s.pos := rfl
@[simp] theorem State.modCond_heads : (s.modCond i f).heads = s.heads := rfl
@[simp] theorem State.modCond_recs : (s.modCond i f).recs = s.recs := rfl
@[simp] theorem State.modCond_free : (s.modCond i f).free = s.free := rfl
@[simp] theorem State.modCond_counter : (s.modCond i f).counter = s.counter := rfl
@[simp] theorem State.modCond_lines : (s.modCond i f).lines = s.lines := rfl
@[simp] theorem State.modCond_platens : (s.modCond i f).platens = s.platens := rfl
@[simp] theorem State.modCond_conds : (s.modCond i f).conds = s.conds.set i.val (f s.conds[i.val]) := rfl
@[simp] theorem State.modCond_wears : (s.modCond i f).wears = s.wears := rfl
@[simp] theorem State.modCond_watches : (s.modCond i f).watches = s.watches := rfl
@[simp] theorem State.modCond_latches : (s.modCond i f).latches = s.latches := rfl
@[simp] theorem State.modCond_car : (s.modCond i f).car = s.car := rfl
@[simp] theorem State.modCond_hub : (s.modCond i f).hub = s.hub := rfl
@[simp] theorem State.modCond_store : (s.modCond i f).store = s.store := rfl
@[simp] theorem State.modCond_link : (s.modCond i f).link = s.link := rfl
@[simp] theorem State.modCond_draws : (s.modCond i f).draws = s.draws := rfl

/-- The conditioner named is changed. -/
theorem State.modCond_get : (s.modCond i f).conds[i.val] = f s.conds[i.val] := by simp

/-- Every other conditioner is as before. -/
theorem State.modCond_get_ne (k : PlatenIx) (ne : k ≠ i) : (s.modCond i f).conds[k.val] = s.conds[k.val] := by
  have : i.val ≠ k.val := fun e => ne (Fin.ext e.symm)
  simp [Vector.getElem_set_ne, this]

end modCond

section modWear

variable (s : State) (i : PlatenIx) (f : WearMap → WearMap)

@[simp] theorem State.modWear_pending : (s.modWear i f).pending = s.pending := rfl
@[simp] theorem State.modWear_now : (s.modWear i f).now = s.now := rfl
@[simp] theorem State.modWear_power : (s.modWear i f).power = s.power := rfl
@[simp] theorem State.modWear_restart : (s.modWear i f).restart = s.restart := rfl
@[simp] theorem State.modWear_stop : (s.modWear i f).stop = s.stop := rfl
@[simp] theorem State.modWear_inPosition : (s.modWear i f).inPosition = s.inPosition := rfl
@[simp] theorem State.modWear_pos : (s.modWear i f).pos = s.pos := rfl
@[simp] theorem State.modWear_heads : (s.modWear i f).heads = s.heads := rfl
@[simp] theorem State.modWear_recs : (s.modWear i f).recs = s.recs := rfl
@[simp] theorem State.modWear_free : (s.modWear i f).free = s.free := rfl
@[simp] theorem State.modWear_counter : (s.modWear i f).counter = s.counter := rfl
@[simp] theorem State.modWear_lines : (s.modWear i f).lines = s.lines := rfl
@[simp] theorem State.modWear_platens : (s.modWear i f).platens = s.platens := rfl
@[simp] theorem State.modWear_conds : (s.modWear i f).conds = s.conds := rfl
@[simp] theorem State.modWear_wears : (s.modWear i f).wears = s.wears.set i.val (f s.wears[i.val]) := rfl
@[simp] theorem State.modWear_watches : (s.modWear i f).watches = s.watches := rfl
@[simp] theorem State.modWear_latches : (s.modWear i f).latches = s.latches := rfl
@[simp] theorem State.modWear_car : (s.modWear i f).car = s.car := rfl
@[simp] theorem State.modWear_hub : (s.modWear i f).hub = s.hub := rfl
@[simp] theorem State.modWear_store : (s.modWear i f).store = s.store := rfl
@[simp] theorem State.modWear_link : (s.modWear i f).link = s.link := rfl
@[simp] theorem State.modWear_draws : (s.modWear i f).draws = s.draws := rfl

/-- The wear map named is changed. -/
theorem State.modWear_get : (s.modWear i f).wears[i.val] = f s.wears[i.val] := by simp

/-- Every other wear map is as before. -/
theorem State.modWear_get_ne (k : PlatenIx) (ne : k ≠ i) : (s.modWear i f).wears[k.val] = s.wears[k.val] := by
  have : i.val ≠ k.val := fun e => ne (Fin.ext e.symm)
  simp [Vector.getElem_set_ne, this]

end modWear

section modWatch

variable (s : State) (i : WatchIx) (f : Watch → Watch)

@[simp] theorem State.modWatch_pending : (s.modWatch i f).pending = s.pending := rfl
@[simp] theorem State.modWatch_now : (s.modWatch i f).now = s.now := rfl
@[simp] theorem State.modWatch_power : (s.modWatch i f).power = s.power := rfl
@[simp] theorem State.modWatch_restart : (s.modWatch i f).restart = s.restart := rfl
@[simp] theorem State.modWatch_stop : (s.modWatch i f).stop = s.stop := rfl
@[simp] theorem State.modWatch_inPosition : (s.modWatch i f).inPosition = s.inPosition := rfl
@[simp] theorem State.modWatch_pos : (s.modWatch i f).pos = s.pos := rfl
@[simp] theorem State.modWatch_heads : (s.modWatch i f).heads = s.heads := rfl
@[simp] theorem State.modWatch_recs : (s.modWatch i f).recs = s.recs := rfl
@[simp] theorem State.modWatch_free : (s.modWatch i f).free = s.free := rfl
@[simp] theorem State.modWatch_counter : (s.modWatch i f).counter = s.counter := rfl
@[simp] theorem State.modWatch_lines : (s.modWatch i f).lines = s.lines := rfl
@[simp] theorem State.modWatch_platens : (s.modWatch i f).platens = s.platens := rfl
@[simp] theorem State.modWatch_conds : (s.modWatch i f).conds = s.conds := rfl
@[simp] theorem State.modWatch_wears : (s.modWatch i f).wears = s.wears := rfl
@[simp] theorem State.modWatch_watches : (s.modWatch i f).watches = s.watches.set i.val (f s.watches[i.val]) := rfl
@[simp] theorem State.modWatch_latches : (s.modWatch i f).latches = s.latches := rfl
@[simp] theorem State.modWatch_car : (s.modWatch i f).car = s.car := rfl
@[simp] theorem State.modWatch_hub : (s.modWatch i f).hub = s.hub := rfl
@[simp] theorem State.modWatch_store : (s.modWatch i f).store = s.store := rfl
@[simp] theorem State.modWatch_link : (s.modWatch i f).link = s.link := rfl
@[simp] theorem State.modWatch_draws : (s.modWatch i f).draws = s.draws := rfl

/-- The watch named is changed. -/
theorem State.modWatch_get : (s.modWatch i f).watches[i.val] = f s.watches[i.val] := by simp

/-- Every other watch is as before. -/
theorem State.modWatch_get_ne (k : WatchIx) (ne : k ≠ i) : (s.modWatch i f).watches[k.val] = s.watches[k.val] := by
  have : i.val ≠ k.val := fun e => ne (Fin.ext e.symm)
  simp [Vector.getElem_set_ne, this]

end modWatch

section modLatch

variable (s : State) (i : LatchIx) (f : Latch → Latch)

@[simp] theorem State.modLatch_pending : (s.modLatch i f).pending = s.pending := rfl
@[simp] theorem State.modLatch_now : (s.modLatch i f).now = s.now := rfl
@[simp] theorem State.modLatch_power : (s.modLatch i f).power = s.power := rfl
@[simp] theorem State.modLatch_restart : (s.modLatch i f).restart = s.restart := rfl
@[simp] theorem State.modLatch_stop : (s.modLatch i f).stop = s.stop := rfl
@[simp] theorem State.modLatch_inPosition : (s.modLatch i f).inPosition = s.inPosition := rfl
@[simp] theorem State.modLatch_pos : (s.modLatch i f).pos = s.pos := rfl
@[simp] theorem State.modLatch_heads : (s.modLatch i f).heads = s.heads := rfl
@[simp] theorem State.modLatch_recs : (s.modLatch i f).recs = s.recs := rfl
@[simp] theorem State.modLatch_free : (s.modLatch i f).free = s.free := rfl
@[simp] theorem State.modLatch_counter : (s.modLatch i f).counter = s.counter := rfl
@[simp] theorem State.modLatch_lines : (s.modLatch i f).lines = s.lines := rfl
@[simp] theorem State.modLatch_platens : (s.modLatch i f).platens = s.platens := rfl
@[simp] theorem State.modLatch_conds : (s.modLatch i f).conds = s.conds := rfl
@[simp] theorem State.modLatch_wears : (s.modLatch i f).wears = s.wears := rfl
@[simp] theorem State.modLatch_watches : (s.modLatch i f).watches = s.watches := rfl
@[simp] theorem State.modLatch_latches : (s.modLatch i f).latches = s.latches.set i.val (f s.latches[i.val]) := rfl
@[simp] theorem State.modLatch_car : (s.modLatch i f).car = s.car := rfl
@[simp] theorem State.modLatch_hub : (s.modLatch i f).hub = s.hub := rfl
@[simp] theorem State.modLatch_store : (s.modLatch i f).store = s.store := rfl
@[simp] theorem State.modLatch_link : (s.modLatch i f).link = s.link := rfl
@[simp] theorem State.modLatch_draws : (s.modLatch i f).draws = s.draws := rfl

/-- The latch named is changed. -/
theorem State.modLatch_get : (s.modLatch i f).latches[i.val] = f s.latches[i.val] := by simp

/-- Every other latch is as before. -/
theorem State.modLatch_get_ne (k : LatchIx) (ne : k ≠ i) : (s.modLatch i f).latches[k.val] = s.latches[k.val] := by
  have : i.val ≠ k.val := fun e => ne (Fin.ext e.symm)
  simp [Vector.getElem_set_ne, this]

end modLatch

section modCar

variable (s : State) (f : Carousel → Carousel)

@[simp] theorem State.modCar_pending : (s.modCar f).pending = s.pending := rfl
@[simp] theorem State.modCar_now : (s.modCar f).now = s.now := rfl
@[simp] theorem State.modCar_power : (s.modCar f).power = s.power := rfl
@[simp] theorem State.modCar_restart : (s.modCar f).restart = s.restart := rfl
@[simp] theorem State.modCar_stop : (s.modCar f).stop = s.stop := rfl
@[simp] theorem State.modCar_inPosition : (s.modCar f).inPosition = s.inPosition := rfl
@[simp] theorem State.modCar_pos : (s.modCar f).pos = s.pos := rfl
@[simp] theorem State.modCar_heads : (s.modCar f).heads = s.heads := rfl
@[simp] theorem State.modCar_recs : (s.modCar f).recs = s.recs := rfl
@[simp] theorem State.modCar_free : (s.modCar f).free = s.free := rfl
@[simp] theorem State.modCar_counter : (s.modCar f).counter = s.counter := rfl
@[simp] theorem State.modCar_lines : (s.modCar f).lines = s.lines := rfl
@[simp] theorem State.modCar_platens : (s.modCar f).platens = s.platens := rfl
@[simp] theorem State.modCar_conds : (s.modCar f).conds = s.conds := rfl
@[simp] theorem State.modCar_wears : (s.modCar f).wears = s.wears := rfl
@[simp] theorem State.modCar_watches : (s.modCar f).watches = s.watches := rfl
@[simp] theorem State.modCar_latches : (s.modCar f).latches = s.latches := rfl
@[simp] theorem State.modCar_car : (s.modCar f).car = f s.car := rfl
@[simp] theorem State.modCar_hub : (s.modCar f).hub = s.hub := rfl
@[simp] theorem State.modCar_store : (s.modCar f).store = s.store := rfl
@[simp] theorem State.modCar_link : (s.modCar f).link = s.link := rfl
@[simp] theorem State.modCar_draws : (s.modCar f).draws = s.draws := rfl

end modCar

section modHub

variable (s : State) (f : Hub → Hub)

@[simp] theorem State.modHub_pending : (s.modHub f).pending = s.pending := rfl
@[simp] theorem State.modHub_now : (s.modHub f).now = s.now := rfl
@[simp] theorem State.modHub_power : (s.modHub f).power = s.power := rfl
@[simp] theorem State.modHub_restart : (s.modHub f).restart = s.restart := rfl
@[simp] theorem State.modHub_stop : (s.modHub f).stop = s.stop := rfl
@[simp] theorem State.modHub_inPosition : (s.modHub f).inPosition = s.inPosition := rfl
@[simp] theorem State.modHub_pos : (s.modHub f).pos = s.pos := rfl
@[simp] theorem State.modHub_heads : (s.modHub f).heads = s.heads := rfl
@[simp] theorem State.modHub_recs : (s.modHub f).recs = s.recs := rfl
@[simp] theorem State.modHub_free : (s.modHub f).free = s.free := rfl
@[simp] theorem State.modHub_counter : (s.modHub f).counter = s.counter := rfl
@[simp] theorem State.modHub_lines : (s.modHub f).lines = s.lines := rfl
@[simp] theorem State.modHub_platens : (s.modHub f).platens = s.platens := rfl
@[simp] theorem State.modHub_conds : (s.modHub f).conds = s.conds := rfl
@[simp] theorem State.modHub_wears : (s.modHub f).wears = s.wears := rfl
@[simp] theorem State.modHub_watches : (s.modHub f).watches = s.watches := rfl
@[simp] theorem State.modHub_latches : (s.modHub f).latches = s.latches := rfl
@[simp] theorem State.modHub_car : (s.modHub f).car = s.car := rfl
@[simp] theorem State.modHub_hub : (s.modHub f).hub = f s.hub := rfl
@[simp] theorem State.modHub_store : (s.modHub f).store = s.store := rfl
@[simp] theorem State.modHub_link : (s.modHub f).link = s.link := rfl
@[simp] theorem State.modHub_draws : (s.modHub f).draws = s.draws := rfl

end modHub

section modStore

variable (s : State) (f : Store → Store)

@[simp] theorem State.modStore_pending : (s.modStore f).pending = s.pending := rfl
@[simp] theorem State.modStore_now : (s.modStore f).now = s.now := rfl
@[simp] theorem State.modStore_power : (s.modStore f).power = s.power := rfl
@[simp] theorem State.modStore_restart : (s.modStore f).restart = s.restart := rfl
@[simp] theorem State.modStore_stop : (s.modStore f).stop = s.stop := rfl
@[simp] theorem State.modStore_inPosition : (s.modStore f).inPosition = s.inPosition := rfl
@[simp] theorem State.modStore_pos : (s.modStore f).pos = s.pos := rfl
@[simp] theorem State.modStore_heads : (s.modStore f).heads = s.heads := rfl
@[simp] theorem State.modStore_recs : (s.modStore f).recs = s.recs := rfl
@[simp] theorem State.modStore_free : (s.modStore f).free = s.free := rfl
@[simp] theorem State.modStore_counter : (s.modStore f).counter = s.counter := rfl
@[simp] theorem State.modStore_lines : (s.modStore f).lines = s.lines := rfl
@[simp] theorem State.modStore_platens : (s.modStore f).platens = s.platens := rfl
@[simp] theorem State.modStore_conds : (s.modStore f).conds = s.conds := rfl
@[simp] theorem State.modStore_wears : (s.modStore f).wears = s.wears := rfl
@[simp] theorem State.modStore_watches : (s.modStore f).watches = s.watches := rfl
@[simp] theorem State.modStore_latches : (s.modStore f).latches = s.latches := rfl
@[simp] theorem State.modStore_car : (s.modStore f).car = s.car := rfl
@[simp] theorem State.modStore_hub : (s.modStore f).hub = s.hub := rfl
@[simp] theorem State.modStore_store : (s.modStore f).store = f s.store := rfl
@[simp] theorem State.modStore_link : (s.modStore f).link = s.link := rfl
@[simp] theorem State.modStore_draws : (s.modStore f).draws = s.draws := rfl

end modStore

section modLink

variable (s : State) (f : Link → Link)

@[simp] theorem State.modLink_pending : (s.modLink f).pending = s.pending := rfl
@[simp] theorem State.modLink_now : (s.modLink f).now = s.now := rfl
@[simp] theorem State.modLink_power : (s.modLink f).power = s.power := rfl
@[simp] theorem State.modLink_restart : (s.modLink f).restart = s.restart := rfl
@[simp] theorem State.modLink_stop : (s.modLink f).stop = s.stop := rfl
@[simp] theorem State.modLink_inPosition : (s.modLink f).inPosition = s.inPosition := rfl
@[simp] theorem State.modLink_pos : (s.modLink f).pos = s.pos := rfl
@[simp] theorem State.modLink_heads : (s.modLink f).heads = s.heads := rfl
@[simp] theorem State.modLink_recs : (s.modLink f).recs = s.recs := rfl
@[simp] theorem State.modLink_free : (s.modLink f).free = s.free := rfl
@[simp] theorem State.modLink_counter : (s.modLink f).counter = s.counter := rfl
@[simp] theorem State.modLink_lines : (s.modLink f).lines = s.lines := rfl
@[simp] theorem State.modLink_platens : (s.modLink f).platens = s.platens := rfl
@[simp] theorem State.modLink_conds : (s.modLink f).conds = s.conds := rfl
@[simp] theorem State.modLink_wears : (s.modLink f).wears = s.wears := rfl
@[simp] theorem State.modLink_watches : (s.modLink f).watches = s.watches := rfl
@[simp] theorem State.modLink_latches : (s.modLink f).latches = s.latches := rfl
@[simp] theorem State.modLink_car : (s.modLink f).car = s.car := rfl
@[simp] theorem State.modLink_hub : (s.modLink f).hub = s.hub := rfl
@[simp] theorem State.modLink_store : (s.modLink f).store = s.store := rfl
@[simp] theorem State.modLink_link : (s.modLink f).link = f s.link := rfl
@[simp] theorem State.modLink_draws : (s.modLink f).draws = s.draws := rfl

end modLink

section reach

variable (s : State) (t : Nat)

@[simp] theorem State.reach_pending : (s.reach t).pending = s.pending := rfl
@[simp] theorem State.reach_now : (s.reach t).now = max s.now t := rfl
@[simp] theorem State.reach_power : (s.reach t).power = s.power := rfl
@[simp] theorem State.reach_restart : (s.reach t).restart = s.restart := rfl
@[simp] theorem State.reach_stop : (s.reach t).stop = s.stop := rfl
@[simp] theorem State.reach_inPosition : (s.reach t).inPosition = s.inPosition := rfl
@[simp] theorem State.reach_pos : (s.reach t).pos = s.pos := rfl
@[simp] theorem State.reach_heads : (s.reach t).heads = s.heads := rfl
@[simp] theorem State.reach_recs : (s.reach t).recs = s.recs := rfl
@[simp] theorem State.reach_free : (s.reach t).free = s.free := rfl
@[simp] theorem State.reach_counter : (s.reach t).counter = s.counter := rfl
@[simp] theorem State.reach_lines : (s.reach t).lines = s.lines := rfl
@[simp] theorem State.reach_platens : (s.reach t).platens = s.platens := rfl
@[simp] theorem State.reach_conds : (s.reach t).conds = s.conds := rfl
@[simp] theorem State.reach_wears : (s.reach t).wears = s.wears := rfl
@[simp] theorem State.reach_watches : (s.reach t).watches = s.watches := rfl
@[simp] theorem State.reach_latches : (s.reach t).latches = s.latches := rfl
@[simp] theorem State.reach_car : (s.reach t).car = s.car := rfl
@[simp] theorem State.reach_hub : (s.reach t).hub = s.hub := rfl
@[simp] theorem State.reach_store : (s.reach t).store = s.store := rfl
@[simp] theorem State.reach_link : (s.reach t).link = s.link := rfl
@[simp] theorem State.reach_draws : (s.reach t).draws = s.draws := rfl

/-- The clock never turns back. -/
theorem State.now_le_reach : s.now ≤ (s.reach t).now := Nat.le_max_left _ _

end reach

/-! ### Heads and zones -/

section zones

variable (d : Head) (z : ZoneIx) (f : Zone → Zone) (g : ZoneIx → Zone → Zone)

@[simp] theorem Head.modZone_state : (d.modZone z f).state = d.state := rfl
@[simp] theorem Head.mapZones_state : (d.mapZones g).state = d.state := rfl
@[simp] theorem Head.modZone_haltReason : (d.modZone z f).haltReason = d.haltReason := rfl
@[simp] theorem Head.mapZones_haltReason : (d.mapZones g).haltReason = d.haltReason := rfl
@[simp] theorem Head.modZone_standby : (d.modZone z f).standby = d.standby := rfl
@[simp] theorem Head.mapZones_standby : (d.mapZones g).standby = d.standby := rfl
@[simp] theorem Head.modZone_steps : (d.modZone z f).steps = d.steps := rfl
@[simp] theorem Head.mapZones_steps : (d.mapZones g).steps = d.steps := rfl
@[simp] theorem Head.modZone_current : (d.modZone z f).current = d.current := rfl
@[simp] theorem Head.mapZones_current : (d.mapZones g).current = d.current := rfl
@[simp] theorem Head.modZone_held : (d.modZone z f).held = d.held := rfl
@[simp] theorem Head.mapZones_held : (d.mapZones g).held = d.held := rfl
@[simp] theorem Head.modZone_indexMark : (d.modZone z f).indexMark = d.indexMark := rfl
@[simp] theorem Head.mapZones_indexMark : (d.mapZones g).indexMark = d.indexMark := rfl
@[simp] theorem Head.modZone_marginLimited : (d.modZone z f).marginLimited = d.marginLimited := rfl
@[simp] theorem Head.mapZones_marginLimited : (d.mapZones g).marginLimited = d.marginLimited := rfl
@[simp] theorem Head.modZone_marginActive : (d.modZone z f).marginActive = d.marginActive := rfl
@[simp] theorem Head.mapZones_marginActive : (d.mapZones g).marginActive = d.marginActive := rfl
@[simp] theorem Head.modZone_snapshot : (d.modZone z f).snapshot = d.snapshot := rfl
@[simp] theorem Head.mapZones_snapshot : (d.mapZones g).snapshot = d.snapshot := rfl
@[simp] theorem Head.modZone_dose : (d.modZone z f).dose = d.dose := rfl
@[simp] theorem Head.mapZones_dose : (d.mapZones g).dose = d.dose := rfl
@[simp] theorem Head.modZone_zones : (d.modZone z f).zones = d.zones.set z.val (f d.zones[z.val]) := rfl
@[simp] theorem Head.mapZones_zones : (d.mapZones g).zones = Vector.ofFn fun z => g z d.zones[z.val] := rfl
@[simp] theorem Head.modZone_limits : (d.modZone z f).limits = d.limits := rfl
@[simp] theorem Head.mapZones_limits : (d.mapZones g).limits = d.limits := rfl
@[simp] theorem Head.modZone_entered : (d.modZone z f).entered = d.entered := rfl
@[simp] theorem Head.mapZones_entered : (d.mapZones g).entered = d.entered := rfl
@[simp] theorem Head.modZone_pressStart : (d.modZone z f).pressStart = d.pressStart := rfl
@[simp] theorem Head.mapZones_pressStart : (d.mapZones g).pressStart = d.pressStart := rfl
@[simp] theorem Head.modZone_frozenClock : (d.modZone z f).frozenClock = d.frozenClock := rfl
@[simp] theorem Head.mapZones_frozenClock : (d.mapZones g).frozenClock = d.frozenClock := rfl
@[simp] theorem Head.modZone_endpoint : (d.modZone z f).endpoint = d.endpoint := rfl
@[simp] theorem Head.mapZones_endpoint : (d.mapZones g).endpoint = d.endpoint := rfl
@[simp] theorem Head.modZone_updateDue : (d.modZone z f).updateDue = d.updateDue := rfl
@[simp] theorem Head.mapZones_updateDue : (d.mapZones g).updateDue = d.updateDue := rfl
@[simp] theorem Head.modZone_supervision : (d.modZone z f).supervision = d.supervision := rfl
@[simp] theorem Head.mapZones_supervision : (d.mapZones g).supervision = d.supervision := rfl

/-- The zone named is changed. -/
theorem Head.modZone_get : (d.modZone z f).zones[z.val] = f d.zones[z.val] := by simp

/-- Every other zone is as before. -/
theorem Head.modZone_get_ne (k : ZoneIx) (ne : k ≠ z) : (d.modZone z f).zones[k.val] = d.zones[k.val] := by
  have : z.val ≠ k.val := fun e => ne (Fin.ext e.symm)
  simp [Vector.getElem_set_ne, this]

/-- Each zone is changed by its own function. -/
theorem Head.mapZones_get (k : ZoneIx) : (d.mapZones g).zones[k.val] = g k d.zones[k.val] := by simp

end zones

end Sys2Proof.Machine
end

