-- ==== Sys2Proof/Laws/Frame.lean ====
section
/-! SUPPORT. What the shared operations leave unchanged, said once. `State.Keeps` holds between a state and what any work of the blocks
makes of it: no such work touches the wires, the clock, the wear maps, the hub, the store or a setting. `State.KeepsPool` adds what a
head's own transitions leave, and `State.KeepsAllButLines` what an admission leaves. Each operation has one lemma below; a proof takes
the field it needs from it. -/

namespace Sys2Proof.Machine

/-! ### Elements of a vector after one is set -/

theorem get_set {α : Type} {n : Nat} (v : Vector α n) (i k : Fin n) (x : α) :
    (v.set i.val x)[k.val] = if k = i then x else v[k.val] := by
  by_cases e : k = i
  · subst e; simp
  · have : i.val ≠ k.val := fun h => e (Fin.ext h.symm)
    simp [Vector.getElem_set_ne, this, e]

/-! ### Heads -/

/-- What no transition of a head changes in it: its settings, and the calibration and offset of each zone. -/
structure Head.Keeps (d e : Head) : Prop where
  standby : e.standby = d.standby
  limits : e.limits = d.limits
  cal : ∀ z : ZoneIx, e.zones[z.val].cal = d.zones[z.val].cal
  offset : ∀ z : ZoneIx, e.zones[z.val].offset = d.zones[z.val].offset
  drift : ∀ z : ZoneIx, e.zones[z.val].drift = d.zones[z.val].drift

theorem Head.Keeps.refl (d : Head) : d.Keeps d := ⟨rfl, rfl, fun _ => rfl, fun _ => rfl, fun _ => rfl⟩

theorem Head.Keeps.trans {a b c : Head} (h : a.Keeps b) (k : b.Keeps c) : a.Keeps c :=
  ⟨k.standby.trans h.standby, k.limits.trans h.limits, fun z => (k.cal z).trans (h.cal z),
    fun z => (k.offset z).trans (h.offset z), fun z => (k.drift z).trans (h.drift z)⟩

theorem Head.mapZones_keeps (d : Head) (f : ZoneIx → Zone → Zone)
    (hf : ∀ z c, (f z c).cal = c.cal ∧ (f z c).offset = c.offset ∧ (f z c).drift = c.drift) : d.Keeps (d.mapZones f) :=
  ⟨rfl, rfl, fun z => by simp [hf], fun z => by simp [hf], fun z => by simp [hf]⟩

theorem Head.startSettle_keeps (d : Head) (now : Nat) : d.Keeps (d.startSettle now) := by
  unfold Head.startSettle
  split
  · exact ⟨rfl, rfl, fun _ => rfl, fun _ => rfl, fun _ => rfl⟩
  · exact ⟨rfl, rfl, fun z => by simp, fun z => by simp, fun z => by simp⟩

theorem Head.compute_keeps (d : Head) (now : Nat) : d.Keeps (d.compute now) := by
  unfold Head.compute
  dsimp only
  split
  · refine Head.Keeps.trans ?_ (Head.startSettle_keeps _ now)
    exact ⟨rfl, rfl, fun z => by simp, fun z => by simp, fun z => by simp⟩
  · exact ⟨rfl, rfl, fun z => by simp, fun z => by simp, fun z => by simp⟩

theorem Head.zeroCommands_keeps (d : Head) : d.Keeps d.zeroCommands :=
  ⟨rfl, rfl, fun z => by simp [Head.zeroCommands], fun z => by simp [Head.zeroCommands], fun z => by simp [Head.zeroCommands]⟩

/-- What an entry to HALTED does to a head's timers and commands. -/
theorem Head.quiet_keeps (d : Head) : d.Keeps { d.zeroCommands.stopSupervision with updateDue := none } := by
  refine ⟨rfl, rfl, fun z => ?_, fun z => ?_, fun z => ?_⟩ <;> simp [Head.zeroCommands, Head.stopSupervision]

theorem Head.stopSupervision_keeps (d : Head) : d.Keeps d.stopSupervision :=
  ⟨rfl, rfl, fun z => by simp [Head.stopSupervision], fun z => by simp [Head.stopSupervision], fun z => by simp [Head.stopSupervision]⟩

/-! ### The scopes -/

/-- What no work of the blocks changes: everything but what heads, doses, lines, platens' reservations, arms, watches, latches, the
carousel's course and the queues of the link are at. -/
structure State.Keeps (s t : State) : Prop where
  pending : t.pending = s.pending
  now : t.now = s.now
  power : t.power = s.power
  restart : t.restart = s.restart
  stop : t.stop = s.stop
  inPosition : t.inPosition = s.inPosition
  pos : t.pos = s.pos
  wears : t.wears = s.wears
  hub : t.hub = s.hub
  store : t.store = s.store
  draws : t.draws = s.draws
  heads : ∀ h : HeadIx, s.heads[h.val].Keeps t.heads[h.val]
  modes : ∀ p : PlatenIx, t.platens[p.val].mode = s.platens[p.val].mode
  platenConfig : ∀ p : PlatenIx, t.platens[p.val].config = s.platens[p.val].config
  lineConfig : ∀ l : LineIx, t.lines[l.val].config = s.lines[l.val].config
  profile : ∀ p : PlatenIx, t.conds[p.val].profile = s.conds[p.val].profile
  defn : ∀ w : WatchIx, t.watches[w.val].defn = s.watches[w.val].defn
  position : t.car.position = s.car.position
  carSettings : t.car.liftTime = s.car.liftTime ∧ t.car.indexTimeout = s.car.indexTimeout
  receiver : t.link.rx = s.link.rx ∧ t.link.held = s.link.held

theorem State.Keeps.refl (s : State) : s.Keeps s :=
  ⟨rfl, rfl, rfl, rfl, rfl, rfl, rfl, rfl, rfl, rfl, rfl, fun _ => .refl _, fun _ => rfl, fun _ => rfl, fun _ => rfl, fun _ => rfl,
    fun _ => rfl, rfl, ⟨rfl, rfl⟩, ⟨rfl, rfl⟩⟩

theorem State.Keeps.trans {a b c : State} (h : a.Keeps b) (k : b.Keeps c) : a.Keeps c where
  pending := k.pending.trans h.pending
  now := k.now.trans h.now
  power := k.power.trans h.power
  restart := k.restart.trans h.restart
  stop := k.stop.trans h.stop
  inPosition := k.inPosition.trans h.inPosition
  pos := k.pos.trans h.pos
  wears := k.wears.trans h.wears
  hub := k.hub.trans h.hub
  store := k.store.trans h.store
  draws := k.draws.trans h.draws
  heads := fun x => (h.heads x).trans (k.heads x)
  modes := fun x => (k.modes x).trans (h.modes x)
  platenConfig := fun x => (k.platenConfig x).trans (h.platenConfig x)
  lineConfig := fun x => (k.lineConfig x).trans (h.lineConfig x)
  profile := fun x => (k.profile x).trans (h.profile x)
  defn := fun x => (k.defn x).trans (h.defn x)
  position := k.position.trans h.position
  carSettings := ⟨k.carSettings.1.trans h.carSettings.1, k.carSettings.2.trans h.carSettings.2⟩
  receiver := ⟨k.receiver.1.trans h.receiver.1, k.receiver.2.trans h.receiver.2⟩

/-- What a head's own transitions leave besides: the free list, the submission counter and the latches. -/
structure State.KeepsPool (s t : State) : Prop extends s.Keeps t where
  free : t.free = s.free
  counter : t.counter = s.counter
  latches : t.latches = s.latches

theorem State.KeepsPool.refl (s : State) : s.KeepsPool s := ⟨.refl s, rfl, rfl, rfl⟩

theorem State.KeepsPool.trans {a b c : State} (h : a.KeepsPool b) (k : b.KeepsPool c) : a.KeepsPool c :=
  ⟨h.toKeeps.trans k.toKeeps, k.free.trans h.free, k.counter.trans h.counter, k.latches.trans h.latches⟩

/-- What an admission leaves: everything but lines, records and platens' reservations and pointers. -/
structure State.KeepsAllButLines (s t : State) : Prop extends s.KeepsPool t where
  sameHeads : t.heads = s.heads
  conds : t.conds = s.conds
  watches : t.watches = s.watches
  car : t.car = s.car
  link : t.link = s.link

theorem State.KeepsAllButLines.refl (s : State) : s.KeepsAllButLines s := ⟨.refl s, rfl, rfl, rfl, rfl, rfl⟩

theorem State.KeepsAllButLines.trans {a b c : State} (h : a.KeepsAllButLines b) (k : b.KeepsAllButLines c) :
    a.KeepsAllButLines c :=
  ⟨h.toKeepsPool.trans k.toKeepsPool, k.sameHeads.trans h.sameHeads, k.conds.trans h.conds, k.watches.trans h.watches,
    k.car.trans h.car, k.link.trans h.link⟩

/-- The same, as one record update. -/
theorem State.KeepsAllButLines.eq {s t : State} (h : s.KeepsAllButLines t) :
    t = { s with recs := t.recs, lines := t.lines, platens := t.platens } := by
  obtain ⟨⟨⟨h1, h2, h3, h4, h5, h6, h7, h8, h9, h10, h11, -, -, -, -, -, -, -, -, -⟩, h12, h13, h14⟩, h15, h16, h17, h18, h19⟩ := h
  cases t; cases s
  simp_all

/-! ### Loops -/

theorem forEach_nil {α : Type} (f : α → State → State) (s : State) : forEach [] f s = s := rfl

theorem forEach_cons {α : Type} (x : α) (xs : List α) (f : α → State → State) (s : State) :
    forEach (x :: xs) f s = forEach xs f (f x s) := rfl

/-- A relation that is reflexive and transitive and holds of every turn holds of the loop. -/
theorem forEach_rel {α : Type} {R : State → State → Prop} (refl : ∀ s, R s s) (trans : ∀ {a b c}, R a b → R b c → R a c)
    (xs : List α) (f : α → State → State) (hf : ∀ x s, R s (f x s)) (s : State) : R s (forEach xs f s) := by
  induction xs generalizing s with
  | nil => exact refl s
  | cons x xs ih => exact trans (hf x s) (ih (f x s))

/-! ### The updaters -/

theorem State.modHead_keepsPool (s : State) (h : HeadIx) (f : Head → Head) (hf : s.heads[h.val].Keeps (f s.heads[h.val])) :
    s.KeepsPool (s.modHead h f) where
  toKeeps := { State.Keeps.refl s with
    heads := fun k => by
      simp only [modHead_heads, get_set]
      split
      · next e => exact e ▸ hf
      · exact .refl _ }
  free := rfl
  counter := rfl
  latches := rfl

theorem State.modRec_keeps (s : State) (r : RecIx) (f : DoseRec → DoseRec) : s.KeepsAllButLines (s.modRec r f) :=
  { State.KeepsAllButLines.refl s with }

theorem State.modLine_keeps (s : State) (l : LineIx) (f : Line → Line) (hf : (f s.lines[l.val]).config = s.lines[l.val].config) :
    s.KeepsAllButLines (s.modLine l f) :=
  { State.KeepsAllButLines.refl s with
    lineConfig := fun k => by
      simp only [modLine_lines, get_set]
      split
      · next e => exact e ▸ hf
      · rfl }

theorem State.modPlaten_keeps (s : State) (p : PlatenIx) (f : Platen → Platen)
    (hf : (f s.platens[p.val]).mode = s.platens[p.val].mode ∧ (f s.platens[p.val]).config = s.platens[p.val].config) :
    s.KeepsAllButLines (s.modPlaten p f) :=
  { State.KeepsAllButLines.refl s with
    modes := fun k => by
      simp only [modPlaten_platens, get_set]
      split
      · next e => exact e ▸ hf.1
      · rfl
    platenConfig := fun k => by
      simp only [modPlaten_platens, get_set]
      split
      · next e => exact e ▸ hf.2
      · rfl }

theorem State.modCond_keepsPool (s : State) (p : PlatenIx) (f : Conditioner → Conditioner)
    (hf : (f s.conds[p.val]).profile = s.conds[p.val].profile) : s.KeepsPool (s.modCond p f) :=
  { State.KeepsPool.refl s with
    profile := fun k => by
      simp only [modCond_conds, get_set]
      split
      · next e => exact e ▸ hf
      · rfl }

theorem State.modWatch_keepsPool (s : State) (w : WatchIx) (f : Watch → Watch)
    (hf : (f s.watches[w.val]).defn = s.watches[w.val].defn) : s.KeepsPool (s.modWatch w f) :=
  { State.KeepsPool.refl s with
    defn := fun k => by
      simp only [modWatch_watches, get_set]
      split
      · next e => exact e ▸ hf
      · rfl }

theorem State.modCar_keepsPool (s : State) (f : Carousel → Carousel)
    (hf : (f s.car).position = s.car.position ∧ (f s.car).liftTime = s.car.liftTime ∧ (f s.car).indexTimeout = s.car.indexTimeout) :
    s.KeepsPool (s.modCar f) :=
  { State.KeepsPool.refl s with position := hf.1, carSettings := hf.2 }

theorem State.modLatch_keeps (s : State) (i : LatchIx) (f : Latch → Latch) : s.Keeps (s.modLatch i f) := { State.Keeps.refl s with }

/-! ### The transmitter and the notices -/

theorem Link.choose_rx (k : Link) : k.choose.rx = k.rx ∧ k.choose.held = k.held := by
  unfold Link.choose
  split <;> exact ⟨rfl, rfl⟩

theorem Link.kick_rx (k : Link) : k.kick.rx = k.rx ∧ k.kick.held = k.held := by
  unfold Link.kick
  split
  · exact k.choose_rx
  · exact ⟨rfl, rfl⟩

/-- A transmitter that sends is not disturbed. -/
@[simp] theorem Link.kick_of_sending (k : Link) (h : k.tx.isSome = true) : k.kick = k := by
  cases e : k.tx <;> simp_all [Link.kick]

/-- A transmitter waits for the reply of the request that is being judged. -/
@[simp] theorem Link.kick_of_held (k : Link) (h : k.held = true) : k.kick = k := by
  simp [Link.kick, h]

theorem State.post_keepsPool (s : State) (n : Notice) : s.KeepsPool (s.post n) :=
  { State.KeepsPool.refl s with
    receiver := by
      have h := Link.kick_rx (if s.link.notices.length < Config.noticeCapacity then { s.link with notices := s.link.notices ++ [n] }
        else { s.link with loss := true })
      refine ⟨h.1.trans ?_, h.2.trans ?_⟩ <;> split <;> rfl }

/-! ### Lines and admission -/

theorem State.settleCheck_keeps (s : State) (l : LineIx) : s.KeepsAllButLines (s.settleCheck l) := by
  unfold State.settleCheck
  split
  · exact .refl s
  · exact s.modLine_keeps l _ rfl

theorem State.choose_keeps (s : State) (l : LineIx) : s.KeepsAllButLines (s.choose l).1 := by
  unfold State.choose
  split
  · exact .refl s
  · split
    · exact .refl s
    · split
      · exact s.modLine_keeps l (fun c => { c with credits := c.config.weights }) rfl
      · exact .refl s

theorem State.admitDose_keeps (s : State) (l : LineIx) (c : ClassIx) (r : RecIx) (p : PlatenIx) :
    s.KeepsAllButLines (s.admitDose l c r p) := by
  unfold State.admitDose
  exact (((State.modLine_keeps _ _ _ rfl).trans (State.modPlaten_keeps _ _ _ ⟨rfl, rfl⟩)).trans (State.modRec_keeps _ _ _)).trans
    (State.settleCheck_keeps _ _)

theorem State.admitMany_keeps (l : LineIx) (fuel : Nat) (s : State) : s.KeepsAllButLines (State.admitMany l fuel s) := by
  induction fuel generalizing s with
  | zero => exact .refl s
  | succ n ih =>
    unfold State.admitMany
    have hc := s.choose_keeps l
    split
    · next e => rw [e] at hc; exact hc
    · next e =>
      rw [e] at hc
      split
      · exact hc
      · split
        · exact (hc.trans (State.admitDose_keeps _ _ _ _ _)).trans (ih _)
        · exact hc.trans (State.modLine_keeps _ _ _ rfl)

/-- An admission attempt changes lines, records and platens alone. -/
theorem State.attempt_keeps (s : State) (l : LineIx) : s.KeepsAllButLines (s.attempt l) := by
  unfold State.attempt
  have h := s.modLine_keeps l (fun n => { n with stoppedAt := none }) rfl
  dsimp only
  split
  · exact h.trans (State.admitMany_keeps _ _ _)
  · exact h

/-- A platen's admission round changes lines, records and platens alone. -/
theorem State.round_keeps (s : State) (p : PlatenIx) (asked : State → LineIx → Bool) : s.KeepsAllButLines (s.round p asked) := by
  unfold State.round
  refine forEach_rel State.KeepsAllButLines.refl State.KeepsAllButLines.trans _ _ (fun l s => ?_) s
  split
  · exact s.attempt_keeps l
  · exact .refl s

/-- Under STOP, and on a line neither READY nor PRIMING, an attempt only clears the stopped-at record. -/
theorem State.attempt_of_not_admits (s : State) (l : LineIx) (h : s.admits l = false) :
    s.attempt l = s.modLine l fun n => { n with stoppedAt := none } := by
  have : (s.modLine l fun n => { n with stoppedAt := none }).admits l = false := by
    simpa [State.admits] using h
  simp [State.attempt, this]

/-- A submission takes the next sequence number and changes nothing else but the record and its queue. -/
theorem State.enqueue_counter (s : State) (r : RecIx) (d : DoseRec) :
    (s.enqueue r d).counter = nextSequence s.counter ∧ { s with counter := nextSequence s.counter }.KeepsAllButLines (s.enqueue r d) :=
  ⟨rfl, State.KeepsAllButLines.trans (State.modRec_keeps _ r fun _ => { d with state := .queued, sequence := nextSequence s.counter, since := s.now })
    (State.modLine_keeps _ d.line (fun c => { c with queues := c.queues.set d.cls.val (c.queues[d.cls.val] ++ [r]) }) rfl)⟩

theorem State.enqueue_keeps (s : State) (r : RecIx) (d : DoseRec) : s.Keeps (s.enqueue r d) := by
  have h := (s.enqueue_counter r d).2.toKeeps
  exact { h with }

theorem State.unqueue_keeps (s : State) (r : RecIx) (why : DoseReason) : s.KeepsAllButLines (s.unqueue r why) := by
  unfold State.unqueue
  exact (State.modLine_keeps _ _ _ (by rfl)).trans (State.modRec_keeps _ _ _)

theorem State.close_keeps (s : State) (r : RecIx) (why : DoseReason) : s.KeepsAllButLines (s.close r why) := by
  unfold State.close
  split
  · exact (s.modRec_keeps r _).trans (State.settleCheck_keeps _ _)
  · exact .refl s

theorem State.endPriming_keeps (s : State) (l : LineIx) : s.KeepsAllButLines (s.endPriming l) :=
  (s.modLine_keeps l _ rfl).trans (State.settleCheck_keeps _ _)

theorem State.finishTeardown_keepsPool (s : State) (l : LineIx) : s.KeepsPool (s.finishTeardown l) := by
  unfold State.finishTeardown
  dsimp only
  split
  · exact (s.modLine_keeps l _ rfl).toKeepsPool.trans (State.post_keepsPool _ _)
  · exact .refl s

theorem State.releaseDose_keepsPool (s : State) (h : HeadIx) : s.KeepsPool (s.releaseDose h) := by
  unfold State.releaseDose
  split
  · exact .refl s
  · have hm := s.modHead_keepsPool h (fun d => { d with dose := none }) ⟨rfl, rfl, fun _ => rfl, fun _ => rfl, fun _ => rfl⟩
    dsimp only
    split
    · exact ((hm.trans (State.unqueue_keeps _ _ _).toKeepsPool).trans (State.modRec_keeps _ _ _).toKeepsPool).trans
        (State.attempt_keeps _ _).toKeepsPool
    · exact hm.trans (State.close_keeps _ _ _).toKeepsPool

/-! ### Conditioners, watches and the lift -/

theorem Conditioner.left_profile (c : Conditioner) (now : Nat) (why : EndReason) : (c.left now why).profile = c.profile := by
  unfold Conditioner.left
  split <;> rfl

theorem Conditioner.dropHead_profile (c : Conditioner) (h : HeadIx) (now : Nat) : (c.dropHead h now).profile = c.profile := by
  unfold Conditioner.dropHead
  split
  · exact Conditioner.left_profile _ _ _
  · rfl

theorem Conditioner.joined_profile (c : Conditioner) (b : Bool) (now : Nat) : (c.joined b now).profile = c.profile := by
  unfold Conditioner.joined
  split <;> rfl

theorem Conditioner.emptied_profile (c : Conditioner) (now : Nat) (why : EndReason) : (c.emptied now why).profile = c.profile := by
  unfold Conditioner.emptied
  cases c.arm <;> rfl

theorem State.dropHolder_keepsPool (s : State) (h : HeadIx) : s.KeepsPool (s.dropHolder h) :=
  forEach_rel State.KeepsPool.refl State.KeepsPool.trans _ _
    (fun _ _ => State.modCond_keepsPool _ _ _ (Conditioner.dropHead_profile _ _ _)) s

theorem State.unbind_keepsPool (s : State) (h : HeadIx) : s.KeepsPool (s.unbind h) := by
  refine forEach_rel State.KeepsPool.refl State.KeepsPool.trans _ _ (fun w s => State.modWatch_keepsPool s w _ ?_) s
  dsimp only
  split <;> rfl

theorem State.enterLifting_keepsPool (s : State) : s.KeepsPool s.enterLifting := by
  unfold State.enterLifting
  refine (s.modCar_keepsPool (fun c => { c with state := .lifting, liftStart := s.now, lifted := false }) ⟨rfl, rfl, rfl⟩).trans ?_
  exact forEach_rel State.KeepsPool.refl State.KeepsPool.trans _ _
    (fun _ _ => State.modCond_keepsPool _ _ _ (Conditioner.emptied_profile _ _ _)) _

theorem State.testReady_keepsPool (s : State) : s.KeepsPool s.testReady := by
  unfold State.testReady
  split
  · exact s.enterLifting_keepsPool
  · exact .refl s

theorem State.testLifted_keepsPool (s : State) : s.KeepsPool s.testLifted := by
  unfold State.testLifted
  split
  · exact s.modCar_keepsPool
      (fun c => { c with state := .moving, moveStart := s.now, phase := if s.inPosition then .departing else .arriving }) ⟨rfl, rfl, rfl⟩
  · exact .refl s

theorem State.setModes_keepsPool (s : State) (h : HeadIx) (m : ZoneIx → ZoneMode) : s.KeepsPool (s.setModes h m) :=
  s.modHead_keepsPool h _ (Head.mapZones_keeps _ _ fun _ _ => ⟨rfl, rfl, rfl⟩)

/-! ### The heads' transitions -/

/-- A change of a head that leaves its settings and its zones. -/
theorem State.modHead_keepsPool' (s : State) (h : HeadIx) (f : Head → Head) (hs : (f s.heads[h.val]).standby = s.heads[h.val].standby)
    (hl : (f s.heads[h.val]).limits = s.heads[h.val].limits) (hz : (f s.heads[h.val]).zones = s.heads[h.val].zones) :
    s.KeepsPool (s.modHead h f) :=
  s.modHead_keepsPool h f ⟨hs, hl, fun z => by rw [hz], fun z => by rw [hz], fun z => by rw [hz]⟩

theorem State.endStep_keepsPool (s : State) (h : HeadIx) (why : StepReason) : s.KeepsPool (s.endStep h why) := by
  unfold State.endStep
  dsimp only
  split
  · exact .refl s
  · exact ((s.post_keepsPool _).trans (State.unbind_keepsPool _ h)).trans (State.modHead_keepsPool' _ _ _ rfl rfl rfl)

theorem State.endHeld_keepsPool (s : State) (h : HeadIx) (why : StepReason) : s.KeepsPool (s.endHeld h why) := by
  unfold State.endHeld
  dsimp only
  split
  · exact .refl s
  · exact (s.post_keepsPool _).trans (State.modHead_keepsPool' _ _ _ rfl rfl rfl)

/-- Entry to HALTED leaves the wires, the clock, the wear maps, the hub, the store, the latches, the free list and every setting. -/
theorem State.haltHead_keepsPool (s : State) (h : HeadIx) (why : HaltReason) (zone : Option ZoneIx) (watch : Option WatchIx) :
    s.KeepsPool (s.haltHead h why zone watch) := by
  unfold State.haltHead
  split
  · exact .refl s
  · have h1 : s.KeepsPool ((s.toStandby h).modHead h fun d => { d.zeroCommands.stopSupervision with updateDue := none }) :=
      (s.setModes_keepsPool h (s.heads[h.val].standby).mode).trans
        ((s.toStandby h).modHead_keepsPool h (fun d => { d.zeroCommands.stopSupervision with updateDue := none }) (Head.quiet_keeps _))
    have h2 : ∀ t, s.KeepsPool t → s.KeepsPool
        ((((((t.modHead h fun d => { d with state := .halted, haltReason := some why, snapshot := [] }).releaseDose h).unbind h).dropHolder
          h).post (.headHalted h why zone watch)).testReady) := fun t ht =>
      (((((ht.trans (State.modHead_keepsPool' _ _ _ rfl rfl rfl)).trans (State.releaseDose_keepsPool _ _)).trans
        (State.unbind_keepsPool _ _)).trans (State.dropHolder_keepsPool _ _)).trans (State.post_keepsPool _ _)).trans
        (State.testReady_keepsPool _)
    dsimp only
    apply h2
    split
    · exact h1.trans (State.endHeld_keepsPool _ _ _)
    · exact h1.trans (State.endStep_keepsPool _ _ _)

theorem State.enterIdle_keepsPool (s : State) (h : HeadIx) : s.KeepsPool (s.enterIdle h) :=
  (State.modHead_keepsPool' _ _ _ rfl rfl rfl).trans (State.testReady_keepsPool _)

theorem State.enterReleasing_keepsPool (s : State) (h : HeadIx) : s.KeepsPool (s.enterReleasing h) := by
  unfold State.enterReleasing
  refine (((s.modHead_keepsPool h _ ?_).trans (State.releaseDose_keepsPool _ _)).trans (State.dropHolder_keepsPool _ _)).trans
    (State.modHead_keepsPool _ _ _ (Head.compute_keeps _ _))
  refine (Head.stopSupervision_keeps _).trans ((Head.mapZones_keeps _ (fun _ z => { z with rampStart := z.command })
    fun _ _ => ⟨rfl, rfl, rfl⟩).trans ⟨rfl, rfl, fun _ => rfl, fun _ => rfl, fun _ => rfl⟩)

theorem State.starveEnd_keepsPool (s : State) (h : HeadIx) : s.KeepsPool (s.starveEnd h) :=
  (s.endHeld_keepsPool h _).trans (State.enterReleasing_keepsPool _ _)

theorem State.enterStarved_keepsPool (s : State) (h : HeadIx) (ended : Step) : s.KeepsPool (s.enterStarved h ended) := by
  unfold State.enterStarved
  have h1 : s.KeepsPool (s.modHead h fun d =>
      let d' := if d.supervision = .ramping then d.startSettle s.now else d
      { d' with state := .starved, held := some ended, frozenClock := s.now - d.pressStart, entered := s.now,
                marginLimited := false }) := by
    refine s.modHead_keepsPool h _ ?_
    dsimp only
    split
    · exact (Head.startSettle_keeps _ s.now).trans ⟨rfl, rfl, fun _ => rfl, fun _ => rfl, fun _ => rfl⟩
    · exact ⟨rfl, rfl, fun _ => rfl, fun _ => rfl, fun _ => rfl⟩
  dsimp only
  split
  · exact h1.trans (State.starveEnd_keepsPool _ _)
  · exact h1

theorem State.pressOn_keepsPool (s : State) (h : HeadIx) (t : Step) : s.KeepsPool (s.pressOn h t) := by
  unfold State.pressOn
  dsimp only
  split
  · exact (s.modCond_keepsPool t.platen (fun c => c.joinHead h s.now) (Conditioner.joined_profile _ _ _)).trans
      (State.modHead_keepsPool _ h (fun d => d.compute s.now) (Head.compute_keeps _ _))
  · exact State.modHead_keepsPool _ _ _ (Head.compute_keeps _ _)

theorem State.bind_keepsPool (s : State) (w : WatchIx) (h : HeadIx) : s.KeepsPool (s.bind w h) := s.modWatch_keepsPool w _ rfl

theorem State.enterPressing_keepsPool (s : State) (h : HeadIx) : s.KeepsPool (s.enterPressing h) := by
  unfold State.enterPressing
  split
  · exact .refl s
  · next t _ =>
    have h1 := (s.modHead_keepsPool h (fun d =>
      { (d.mapZones fun _ z => { z with rampStart := if z.mode = .pressure then (z.command : Int) else 0, deviating := none }) with
        state := .pressing, pressStart := s.now, endpoint := none, supervision := .ramping,
        updateDue := some (s.now + Config.updatePeriod) })
          ⟨rfl, rfl, fun z => by simp, fun z => by simp, fun z => by simp⟩).trans (State.setModes_keepsPool _ h fun _ => .pressure)
    have h2 : ∀ u : State, s.KeepsPool u → s.KeepsPool (match t.watch with
        | none => u.pressOn h t
        | some w =>
          if u.watches[w.val].state = .undefined then u.haltHead h .watchMissing none (some w)
          else if u.watches[w.val].bound.isSome && u.watches[w.val].bound != some h then u.haltHead h .watchBusy none (some w)
          else (u.bind w h).pressOn h t) := fun u hu => by
      split
      · exact hu.trans (State.pressOn_keepsPool _ _ _)
      · split
        · exact hu.trans (State.haltHead_keepsPool _ _ _ _ _)
        · split
          · exact hu.trans (State.haltHead_keepsPool _ _ _ _ _)
          · exact (hu.trans (State.bind_keepsPool _ _ _)).trans (State.pressOn_keepsPool _ _ _)
    dsimp only
    apply h2
    split
    · exact h1.trans (State.modHead_keepsPool _ _ _ (Head.startSettle_keeps _ _))
    · exact h1

theorem State.enterWetting_keepsPool (s : State) (h : HeadIx) : s.KeepsPool (s.enterWetting h) := by
  unfold State.enterWetting
  split
  · exact .refl s
  · have h1 := s.modHead_keepsPool' h (fun d => { d with state := .wetting, entered := s.now, snapshot := [] }) rfl rfl rfl
    dsimp only
    split
    · exact h1.trans (State.enterPressing_keepsPool _ _)
    · exact h1

/-- The succession of steps leaves what an entry to HALTED leaves. -/
theorem State.succeed_keepsPool (s : State) (h : HeadIx) (ended : Step) : s.KeepsPool (s.succeed h ended) := by
  unfold State.succeed
  split
  · have h1 := s.modHead_keepsPool' h Head.makeCurrent rfl rfl rfl
    dsimp only
    split
    · refine State.KeepsPool.trans ?_ (State.enterPressing_keepsPool _ _)
      split
      · exact h1
      · exact h1.trans (State.dropHolder_keepsPool _ _)
    · exact h1.trans (State.enterReleasing_keepsPool _ _)
  · split
    · exact s.enterStarved_keepsPool h ended
    · exact s.enterReleasing_keepsPool h

theorem State.endAndSucceed_keepsPool (s : State) (h : HeadIx) (why : StepReason) : s.KeepsPool (s.endAndSucceed h why) := by
  unfold State.endAndSucceed
  split
  · exact .refl s
  · exact (s.endStep_keepsPool h why).trans (State.succeed_keepsPool _ _ _)

/-! ### Arming, submission, and what the pool tells the heads -/

theorem State.submitHead_keeps (s : State) (h : HeadIx) : s.Keeps (s.submitHead h) := by
  unfold State.submitHead
  split
  · split
    · exact .refl s
    · dsimp only
      split
      · exact (s.haltHead_keepsPool h _ _ _).toKeeps
      · exact ((State.modHead_keepsPool' _ _ _ rfl rfl rfl).toKeeps.trans (State.enqueue_keeps _ _ _)).trans
          (State.attempt_keeps _ _).toKeeps
  · exact .refl s

theorem State.testArmed_keeps (s : State) (h : HeadIx) : s.Keeps (s.testArmed h) := by
  unfold State.testArmed
  dsimp only
  split
  · exact .refl s
  · split
    · split
      · exact (State.modHead_keepsPool' _ _ _ rfl rfl rfl).toKeeps.trans (State.submitHead_keeps _ _)
      · exact (s.enterWetting_keepsPool h).toKeeps
    · exact .refl s

theorem State.checkStation_keeps (s : State) (h : HeadIx) : s.Keeps (s.checkStation h) := by
  unfold State.checkStation
  split
  · exact .refl s
  · split
    · exact s.testArmed_keeps h
    · exact (s.haltHead_keepsPool h _ _ _).toKeeps

theorem State.enterArmed_keeps (s : State) (h : HeadIx) : s.Keeps (s.enterArmed h) := by
  unfold State.enterArmed
  split
  · exact .refl s
  · next t _ =>
    have h1 := (s.modHead_keepsPool' h (fun d => { d with state := .armed, snapshot := if t.waitDoses then s.barrier t.platen else [] })
      rfl rfl rfl).toKeeps
    dsimp only
    split
    · exact h1.trans (State.testReady_keepsPool _).toKeeps
    · exact h1.trans (State.checkStation_keeps _ _)

theorem State.tellIndexDone_keeps (s : State) (h : HeadIx) : s.Keeps (s.tellIndexDone h) := by
  unfold State.tellIndexDone
  dsimp only
  split
  · exact (State.modHead_keepsPool' _ _ _ rfl rfl rfl).toKeeps.trans (State.checkStation_keeps _ _)
  · exact .refl s

theorem State.releaseEnd_keeps (s : State) (h : HeadIx) : s.Keeps (s.releaseEnd h) := by
  unfold State.releaseEnd
  have h1 : s.Keeps ((s.toStandby h).modHead h fun d => { d.zeroCommands with updateDue := none }) :=
    ((s.setModes_keepsPool h (s.heads[h.val].standby).mode).trans
      ((s.toStandby h).modHead_keepsPool h (fun d => { d.zeroCommands with updateDue := none })
        ⟨rfl, rfl, fun z => by simp [Head.zeroCommands], fun z => by simp [Head.zeroCommands],
          fun z => by simp [Head.zeroCommands]⟩)).toKeeps
  dsimp only
  split
  · exact h1.trans (State.enterArmed_keeps _ _)
  · exact h1.trans (State.enterIdle_keepsPool _ _).toKeeps

theorem State.tellLoss_keepsPool (s : State) (r : RecIx) : s.KeepsPool (s.tellLoss r) := by
  unfold State.tellLoss
  split
  · exact .refl s
  · split
    · exact s.haltHead_keepsPool _ _ _ _
    · exact .refl s

theorem State.tellFlowing_keepsPool (s : State) (r : RecIx) : s.KeepsPool (s.tellFlowing r) := by
  unfold State.tellFlowing
  split
  · exact .refl s
  · split
    · exact s.enterWetting_keepsPool _
    · exact .refl s

theorem State.tellIdle_keeps (s : State) (r : RecIx) : s.Keeps (s.tellIdle r) := by
  unfold State.tellIdle
  split
  · exact .refl s
  · split
    · exact s.submitHead_keeps _
    · exact .refl s

theorem State.closeAndTell_keepsPool (s : State) (r : RecIx) (why : DoseReason) : s.KeepsPool (s.closeAndTell r why) := by
  unfold State.closeAndTell
  split
  · exact (s.close_keeps r why).toKeepsPool.trans (State.tellLoss_keepsPool _ _)
  · exact .refl s

/-! ### Completion -/

theorem State.clearSnapshot_keeps (s : State) (r : RecIx) (h : HeadIx) : s.Keeps (s.clearSnapshot r h) := by
  unfold State.clearSnapshot
  dsimp only
  split
  · exact (State.modHead_keepsPool' _ _ _ rfl rfl rfl).toKeeps.trans (State.testArmed_keeps _ _)
  · exact .refl s

theorem State.giveBack_keeps (s : State) (r : RecIx) : s.Keeps (s.giveBack r) := { State.Keeps.refl s with }

theorem State.returnRecord_keeps (s : State) (r : RecIx) : s.Keeps (s.returnRecord r) := by
  unfold State.returnRecord
  split
  · exact (s.post_keepsPool _).toKeeps.trans (State.giveBack_keeps _ _)
  · exact s.giveBack_keeps r
  · exact (s.modRec_keeps r _).toKeeps

theorem State.poolDone_keeps (s : State) (r : RecIx) : s.Keeps (s.poolDone r) := by
  unfold State.poolDone
  split
  · exact (s.modRec_keeps r _).toKeeps.trans (State.tellIdle_keeps _ _)
  · exact (s.returnRecord_keeps r).trans
      (forEach_rel State.Keeps.refl State.Keeps.trans _ _ (fun h s => s.clearSnapshot_keeps r h) _)

/-- The end of CLOSING leaves the wires, the clock, the wear maps, the hub, the store and every setting. -/
theorem State.closingEnd_keeps (s : State) (r : RecIx) : s.Keeps (s.closingEnd r) := by
  unfold State.closingEnd
  dsimp only
  split
  · exact (State.modLine_keeps _ _ _ rfl).toKeeps.trans (State.poolDone_keeps _ _)
  · next p _ =>
    refine State.Keeps.trans ?_ (State.round_keeps _ _ _).toKeeps
    have h1 := ((State.modLine_keeps s s.recs[r.val].line (fun c =>
      { c with
        admitted := c.admitted.erase r
        reservation := c.reservation - s.recs[r.val].peak
        tornCount := if c.state = .teardown ∧ s.recs[r.val].reason = some .tornDown then c.tornCount + 1 else c.tornCount
        tornVolume := if c.state = .teardown ∧ s.recs[r.val].reason = some .tornDown then holdAt max32 (c.tornVolume + s.recs[r.val].delivered)
          else c.tornVolume }) rfl).trans
      (State.modPlaten_keeps _ p (fun n => { n with reservation := n.reservation - s.recs[r.val].peak }) ⟨rfl, rfl⟩)).toKeeps.trans
      (State.poolDone_keeps _ r)
    split
    · exact h1.trans (State.finishTeardown_keepsPool _ _).toKeeps
    · exact h1.trans (State.attempt_keeps _ _).toKeeps

/-! ### Watches and the checks of a sample -/

theorem State.tellEndpoint_keepsPool (s : State) (d : WatchDef) (h : HeadIx) : s.KeepsPool (s.tellEndpoint d h) := by
  unfold State.tellEndpoint
  dsimp only
  split
  · have h1 := s.modHead_keepsPool' h (fun c => { c with endpoint := some (c.clock s.now) }) rfl rfl rfl
    split
    · exact h1
    · split
      · exact h1
      · split
        · exact h1.trans (State.endAndSucceed_keepsPool _ _ _)
        · exact h1.trans (State.modHead_keepsPool' _ _ _ rfl rfl rfl)
  · exact .refl s

theorem State.act_keeps (s : State) (w : WatchIx) (d : WatchDef) (bound : Option HeadIx) (v : Int) : s.Keeps (s.act w d bound v) := by
  unfold State.act
  split
  · exact .refl s
  · split
    · exact .refl s
    · split
      · exact (s.endAndSucceed_keepsPool _ _).toKeeps
      · exact .refl s
  · exact (s.haltHead_keepsPool _ _ _ _).toKeeps
  · split
    · exact s.modLatch_keeps _ _
    · refine (s.modHead_keepsPool _ _ ⟨rfl, rfl, fun k => ?_, fun k => ?_, fun k => ?_⟩).toKeeps <;>
        simp only [Head.modZone_zones, get_set] <;> split <;> simp_all

theorem Watch.afterFiring_defn (k : Watch) : k.afterFiring.defn = k.defn := by
  unfold Watch.afterFiring
  split <;> rfl

theorem Watch.evaluate_defn (k : Watch) (v : Int) (now : Nat) : (k.evaluate v now).1.defn = k.defn := by
  unfold Watch.evaluate
  dsimp only
  repeat' split
  all_goals rfl

theorem State.fire_keeps (s : State) (w : WatchIx) (v : Int) : s.Keeps (s.fire w v) := by
  unfold State.fire
  dsimp only
  have h1 := (((s.modWatch_keepsPool w (fun k => { k with firings := holdAt 65535 (s.watches[w.val].firings + 1) }) rfl).trans
    (State.post_keepsPool _ (.watchFired w (s.watches[w.val].prevAvg.getD 0) v s.watches[w.val].defn.threshold
      s.watches[w.val].bound s.watches[w.val].defn.action
      (State.outcomeOf (s.modWatch w fun k => { k with firings := holdAt 65535 (s.watches[w.val].firings + 1) }) s.watches[w.val].defn
        s.watches[w.val].bound (s.sourceValue s.watches[w.val].defn.copy))
      (holdAt 65535 (s.watches[w.val].firings + 1))))).trans (State.modWatch_keepsPool _ w Watch.afterFiring
        (Watch.afterFiring_defn _))).toKeeps
  refine State.Keeps.trans ?_ (State.act_keeps _ _ _ _ _)
  split
  · exact h1
  · exact h1.trans (State.tellEndpoint_keepsPool _ _ _).toKeeps

theorem State.watchSample_keeps (s : State) (w : WatchIx) (v : Int) : s.Keeps (s.watchSample w v) := by
  unfold State.watchSample
  have h1 := (s.modWatch_keepsPool w (fun _ => (s.watches[w.val].evaluate v s.now).1) (Watch.evaluate_defn _ _ _)).toKeeps
  dsimp only
  split
  · exact h1.trans (State.fire_keeps _ _ _)
  · exact h1

/-- A change of one zone's deviation timer. -/
theorem Head.deviating_keeps (d : Head) (z : ZoneIx) (x : Option Nat) : d.Keeps (d.modZone z fun c => { c with deviating := x }) := by
  refine ⟨rfl, rfl, fun k => ?_, fun k => ?_, fun k => ?_⟩ <;> simp only [Head.modZone_zones, get_set] <;> split <;> simp_all

theorem State.superviseSample_keepsPool (s : State) (h : HeadIx) (z : ZoneIx) (v : Int) : s.KeepsPool (s.superviseSample h z v) := by
  unfold State.superviseSample
  dsimp only
  split
  · split
    · have h1 := s.modHead_keepsPool h
        (fun d => d.modZone z fun c => { c with deviating := some (s.heads[h.val].zones[z.val].deviating.getD s.now) })
        (Head.deviating_keeps _ _ _)
      split
      · exact h1.trans (State.haltHead_keepsPool _ _ _ _ _)
      · exact h1
    · exact s.modHead_keepsPool h (fun d => d.modZone z fun c => { c with deviating := none }) (Head.deviating_keeps _ _ _)
  · exact .refl s

theorem State.faultLine_keepsPool (s : State) (l : LineIx) (measured : Int) : s.KeepsPool (s.faultLine l measured) := by
  unfold State.faultLine
  dsimp only
  exact ((State.modLine_keeps _ _ _ rfl).toKeepsPool.trans (forEach_rel State.KeepsPool.refl State.KeepsPool.trans _ _
    (fun r s => s.closeAndTell_keepsPool r _) _)).trans (State.post_keepsPool _ _)

theorem State.flowSample_keepsPool (s : State) (l : LineIx) (v : Int) : s.KeepsPool (s.flowSample l v) := by
  unfold State.flowSample
  dsimp only
  split
  · split
    · split
      · exact s.faultLine_keepsPool l v
      · exact (s.modLine_keeps l _ rfl).toKeepsPool
    · exact (s.modLine_keeps l _ rfl).toKeepsPool
  · exact .refl s

theorem State.torqueSample_keepsPool (s : State) (p : PlatenIx) (v : Int) : s.KeepsPool (s.torqueSample p v) := by
  unfold State.torqueSample
  refine s.modCond_keepsPool p _ ?_
  split <;> rfl

end Sys2Proof.Machine
end

