-- ==== Sys2Proof/Laws/Link.lean ====
section
/-! SUPPORT. The reply list, the notice queue and the transmitter, said once (R188, R189). -/

namespace Sys2Proof.Machine

/-- The transmitter's choice only takes from what waits. -/
theorem Link.choose_waiting (k : Link) :
    (∃ taken, k.replies = taken ++ k.choose.replies) ∧ (∃ taken, k.notices = taken ++ k.choose.notices) := by
  unfold Link.choose
  split
  · next f rest e => exact ⟨⟨[f], e⟩, ⟨[], rfl⟩⟩
  · next n rest e1 e2 => exact ⟨⟨[], rfl⟩, ⟨[n], e2⟩⟩
  · exact ⟨⟨[], rfl⟩, ⟨[], rfl⟩⟩
  · exact ⟨⟨[], rfl⟩, ⟨[], rfl⟩⟩

/-- The same of a transmitter that chooses only when it is idle. -/
theorem Link.kick_waiting (k : Link) :
    (∃ taken, k.replies = taken ++ k.kick.replies) ∧ (∃ taken, k.notices = taken ++ k.kick.notices) := by
  unfold Link.kick
  split
  · exact k.choose_waiting
  · exact ⟨⟨[], rfl⟩, ⟨[], rfl⟩⟩

theorem Link.kick_lengths (k : Link) : k.kick.replies.length ≤ k.replies.length ∧ k.kick.notices.length ≤ k.notices.length := by
  obtain ⟨⟨a, ha⟩, ⟨b, hb⟩⟩ := k.kick_waiting
  have h1 := congrArg List.length ha
  have h2 := congrArg List.length hb
  simp only [List.length_append] at h1 h2
  omega

theorem Link.choose_lengths (k : Link) : k.choose.replies.length ≤ k.replies.length ∧ k.choose.notices.length ≤ k.notices.length := by
  obtain ⟨⟨a, ha⟩, ⟨b, hb⟩⟩ := k.choose_waiting
  have h1 := congrArg List.length ha
  have h2 := congrArg List.length hb
  simp only [List.length_append] at h1 h2
  omega

/-- A post to a queue with room, the transmitter busy: the notice stands at the tail. -/
theorem Link.post_of_sending (k : Link) (n : Notice) (h : k.tx.isSome = true) (room : k.notices.length < 32) :
    k.post n = { k with notices := k.notices ++ [n] } := by
  unfold Link.post
  rw [if_pos (show k.notices.length < Config.noticeCapacity from room)]
  exact Link.kick_of_sending _ h

/-- A post to a full queue, the transmitter busy: the notice is discarded and the loss flag set. -/
theorem Link.post_of_full (k : Link) (n : Notice) (h : k.tx.isSome = true) (full : 32 ≤ k.notices.length) :
    k.post n = { k with loss := true } := by
  unfold Link.post
  rw [if_neg (show ¬ k.notices.length < Config.noticeCapacity from Nat.not_lt.mpr full)]
  exact Link.kick_of_sending _ h

/-- A post while a request is being judged: the notice stands at the tail, whatever the transmitter does. -/
theorem Link.post_of_held (k : Link) (n : Notice) (h : k.held = true) (room : k.notices.length < 32) :
    k.post n = { k with notices := k.notices ++ [n] } := by
  unfold Link.post
  rw [if_pos (show k.notices.length < Config.noticeCapacity from room)]
  exact Link.kick_of_held _ h

/-- A post never takes the notice queue above 32, and leaves the reply list no longer. -/
theorem Link.post_lengths (k : Link) (n : Notice) (h : k.notices.length ≤ 32) :
    (k.post n).notices.length ≤ 32 ∧ (k.post n).replies.length ≤ k.replies.length := by
  unfold Link.post
  refine ⟨(Link.kick_lengths _).2.trans ?_, (Link.kick_lengths _).1.trans ?_⟩
  · split
    · next e =>
      have : k.notices.length < 32 := e
      simp only [List.length_append, List.length_singleton]
      omega
    · exact h
  · split <;> exact Nat.le_refl _

/-- A reply while the transmitter sends stands at the tail of the list. -/
theorem Link.placeReply_of_sending (k : Link) (f : Frame) (h : k.tx.isSome = true) :
    k.placeReply f = { k with replies := k.replies ++ [f], held := false } := Link.kick_of_sending _ h

/-- A reply with an idle transmitter and nothing waiting before it is sent at once. -/
theorem Link.placeReply_of_idle (k : Link) (f : Frame) (h : k.tx = none) (e : k.replies = []) :
    k.placeReply f = { k with tx := some f, replies := [], held := false } := by
  simp [Link.placeReply, Link.kick, Link.choose, h, e]

/-- A reply adds at most one to the list. -/
theorem Link.placeReply_lengths (k : Link) (f : Frame) :
    (k.placeReply f).replies.length ≤ k.replies.length + 1 ∧ (k.placeReply f).notices.length ≤ k.notices.length := by
  have h := Link.kick_lengths { k with replies := k.replies ++ [f], held := false }
  exact ⟨h.1.trans (by simp), h.2⟩

/-- What a reply leaves: the receiver; and the request is no longer waiting for it. -/
theorem Link.placeReply_rx (k : Link) (f : Frame) : (k.placeReply f).rx = k.rx ∧ (k.placeReply f).held = false :=
  Link.kick_rx _

/-! ### A post as a change of the state -/

section post

variable (s : State) (n : Notice)

theorem State.post_link : (s.post n).link = s.link.post n := rfl
@[simp] theorem State.post_now : (s.post n).now = s.now := rfl
@[simp] theorem State.post_pending : (s.post n).pending = s.pending := rfl
@[simp] theorem State.post_power : (s.post n).power = s.power := rfl
@[simp] theorem State.post_stop : (s.post n).stop = s.stop := rfl
@[simp] theorem State.post_heads : (s.post n).heads = s.heads := rfl
@[simp] theorem State.post_recs : (s.post n).recs = s.recs := rfl
@[simp] theorem State.post_free : (s.post n).free = s.free := rfl
@[simp] theorem State.post_lines : (s.post n).lines = s.lines := rfl
@[simp] theorem State.post_platens : (s.post n).platens = s.platens := rfl
@[simp] theorem State.post_conds : (s.post n).conds = s.conds := rfl
@[simp] theorem State.post_wears : (s.post n).wears = s.wears := rfl
@[simp] theorem State.post_watches : (s.post n).watches = s.watches := rfl
@[simp] theorem State.post_latches : (s.post n).latches = s.latches := rfl
@[simp] theorem State.post_car : (s.post n).car = s.car := rfl
@[simp] theorem State.post_hub : (s.post n).hub = s.hub := rfl
@[simp] theorem State.post_store : (s.post n).store = s.store := rfl

end post

end Sys2Proof.Machine
end

