-- ==== Sys2Proof/Laws/Exec.lean ====
section
/-! SUPPORT. The step and the arrival of a request, said once. -/

namespace Sys2Proof.Machine

/-! ### The step -/

/-- With a command waiting, the step runs the oldest. -/
theorem step_cons (c : Instr) (rest : List Instr) (s : State) (h : s.pending = c :: rest) :
    step s = exec c { s with pending := rest } := by simp [step, h]

/-- With none waiting, 1 ms passes. -/
theorem step_nil (s : State) (h : s.pending = []) : step s = .next { s with now := s.now + 1 } := by simp [step, h]

/-- No command faults and none is refused. -/
theorem exec_answers (c : Instr) (s : State) : ∃ t, exec c s = .next t := by cases c <;> exact ⟨_, rfl⟩

/-- An invariant that every command keeps, and that the queue and the clock do not touch, is kept by every step. -/
theorem step_keeps {P : State → Prop} (hq : ∀ (s : State) (q : List Instr), P s → P { s with pending := q })
    (ht : ∀ s : State, P s → P { s with now := s.now + 1 }) (he : ∀ (c : Instr) (s t : State), exec c s = .next t → P s → P t)
    (s t : State) (h : step s = .next t) (hs : P s) : P t := by
  unfold step at h
  split at h
  · cases h
    exact ht s hs
  · exact he _ _ _ h (hq s _ hs)

/-! ### Parts that run -/

@[simp] theorem State.whenRunning_true (s : State) (f : State → State) (h : s.running = true) : s.whenRunning f = f s := by
  simp [State.whenRunning, h]

@[simp] theorem State.whenRunning_false (s : State) (f : State → State) (h : s.running = false) : s.whenRunning f = s := by
  simp [State.whenRunning, h]

/-- An open receiver belongs to a part that runs, with no restart accepted and room on the reply list. -/
theorem State.isOpen_iff (s : State) :
    s.isOpen = true ↔ s.power = .running ∧ s.restart = .none ∧ s.link.replies.length < 16 := by
  simp only [State.isOpen, State.running, Bool.and_eq_true, beq_iff_eq, decide_eq_true_eq, and_assoc]
  rfl

theorem State.running_of_isOpen {s : State} (h : s.isOpen = true) : s.running = true := by
  simp [State.running, (s.isOpen_iff.mp h).1]

/-! ### Requests -/

/-- The state a handler works on: the receiver is in HUNTING, and the reply is due. -/
def State.judging (s : State) : State := s.modLink fun k => { k with rx := .hunting, held := true }

/-- A request to an open receiver: the handler's effect, then its reply. -/
theorem arrive_open (kind tag : Byte) (body : List Byte) (f : Handler) (s : State) (h : s.isOpen = true) :
    arrive kind tag body f s
      = (f body s.judging).2.modLink (·.placeReply ⟨replyKind kind, tag, (f body s.judging).1.body⟩) := by
  unfold arrive
  rw [if_pos h]
  rfl

/-- A request whose handler only answers: the reply, and no other change. -/
theorem arrive_answer (kind tag : Byte) (body : List Byte) (f : Handler) (s : State) (r : Response) (h : s.isOpen = true)
    (hf : f body s.judging = (r, s.judging)) : arrive kind tag body f s = s.replied kind tag r := by
  rw [arrive_open _ _ _ _ _ h, hf]
  rfl

/-- A request whose handler answers and changes the state by `g`, which reads and writes nothing of the link. -/
theorem arrive_effect (kind tag : Byte) (body : List Byte) (f : Handler) (s : State) (r : Response) (g : State → State)
    (h : s.isOpen = true) (hf : f body s.judging = (r, g s.judging)) (hg : g s.judging = { g s with link := s.judging.link })
    (hl : (g s).link = s.link) : arrive kind tag body f s = (g s).replied kind tag r := by
  rw [arrive_open _ _ _ _ _ h, hf]
  dsimp only
  rw [hg]
  unfold State.replied Link.answered State.modLink
  rw [hl]
  rfl

/-- A request while the receiver is closed: nothing but the receiver moves. -/
theorem arrive_closed (kind tag : Byte) (body : List Byte) (f : Handler) (s : State) (h : s.isOpen = false) :
    ∃ rx, arrive kind tag body f s = s.modLink (fun k => { k with rx := rx }) ∧ (s.power = .off → rx = s.link.rx) := by
  unfold arrive
  rw [if_neg (by simp [h])]
  split
  · next e => exact ⟨s.link.rx, rfl, fun _ => rfl⟩
  · next e => exact ⟨_, rfl, fun k => absurd k e⟩

/-- A BODY of the wrong length is refused before anything else. -/
theorem withBody_none {α : Type} (parse : List Byte → Option α) (f : α → State → Response × State) (body : List Byte) (s : State)
    (h : parse body = none) : withBody parse f body s = (.refuse .badLength, s) := by simp [withBody, h]

theorem withBody_some {α : Type} (parse : List Byte → Option α) (f : α → State → Response × State) (body : List Byte) (s : State)
    (q : α) (h : parse body = some q) : withBody parse f body s = f q s := by simp [withBody, h]

@[simp] theorem withIx_val (k : Nat) (f : Fin k → State → Response × State) (i : Fin k) (s : State) :
    withIx k f i.val s = f i s := by simp [withIx]

theorem withIx_none (k : Nat) (f : Fin k → State → Response × State) (n : Nat) (s : State) (h : k ≤ n) :
    withIx k f n s = (.refuse .badValue, s) := by simp [withIx, toIx_none h]

@[simp] theorem withPlaten_succ (f : PlatenIx → State → Response × State) (p : PlatenIx) (s : State) :
    withPlaten f (p.val + 1) s = f p s := by simp [withPlaten]

theorem withPlaten_none (f : PlatenIx → State → Response × State) (n : Nat) (s : State) (h : n = 0 ∨ 3 < n) :
    withPlaten f n s = (.refuse .badValue, s) := by simp [withPlaten, toPlaten_none h]

end Sys2Proof.Machine
end

