-- ==== Sys2Proof/Laws/Heads.lean ====
section
/-! SUPPORT. What the shared operations do to the heads, said once: a transition of head `h` moves no other head, and what an entry to
HALTED leaves of `h` itself (R23). -/

namespace Sys2Proof.Machine

/-! ### Operations that move no head -/

/-- A loop whose turns leave the heads leaves the heads. -/
theorem forEach_heads {α : Type} (xs : List α) (f : α → State → State) (hf : ∀ x s, (f x s).heads = s.heads) (s : State) :
    (forEach xs f s).heads = s.heads :=
  forEach_rel (R := fun s t => t.heads = s.heads) (fun _ => rfl) (fun h k => k.trans h) xs f hf s

@[simp] theorem State.attempt_heads (s : State) (l : LineIx) : (s.attempt l).heads = s.heads := (s.attempt_keeps l).sameHeads
@[simp] theorem State.unqueue_heads (s : State) (r : RecIx) (why : DoseReason) : (s.unqueue r why).heads = s.heads := rfl
@[simp] theorem State.close_heads (s : State) (r : RecIx) (why : DoseReason) : (s.close r why).heads = s.heads :=
  (s.close_keeps r why).sameHeads
@[simp] theorem State.settleCheck_heads (s : State) (l : LineIx) : (s.settleCheck l).heads = s.heads := (s.settleCheck_keeps l).sameHeads
@[simp] theorem State.enqueue_heads (s : State) (r : RecIx) (d : DoseRec) : (s.enqueue r d).heads = s.heads := rfl
@[simp] theorem State.unbind_heads (s : State) (h : HeadIx) : (s.unbind h).heads = s.heads := by
  unfold State.unbind
  exact forEach_heads _ _ (fun _ _ => State.modWatch_heads _ _ _) s
@[simp] theorem State.dropHolder_heads (s : State) (h : HeadIx) : (s.dropHolder h).heads = s.heads := by
  unfold State.dropHolder
  exact forEach_heads _ _ (fun _ _ => State.modCond_heads _ _ _) s
@[simp] theorem State.enterLifting_heads (s : State) : s.enterLifting.heads = s.heads := by
  unfold State.enterLifting
  exact forEach_heads _ _ (fun _ _ => State.modCond_heads _ _ _) _
@[simp] theorem State.testReady_heads (s : State) : s.testReady.heads = s.heads := by
  unfold State.testReady
  split
  · exact s.enterLifting_heads
  · rfl
@[simp] theorem State.testLifted_heads (s : State) : s.testLifted.heads = s.heads := by
  unfold State.testLifted
  split <;> rfl
@[simp] theorem State.finishTeardown_heads (s : State) (l : LineIx) : (s.finishTeardown l).heads = s.heads := by
  unfold State.finishTeardown
  dsimp only
  split <;> rfl
@[simp] theorem State.giveBack_heads (s : State) (r : RecIx) : (s.giveBack r).heads = s.heads := rfl
@[simp] theorem State.returnRecord_heads (s : State) (r : RecIx) : (s.returnRecord r).heads = s.heads := by
  unfold State.returnRecord
  split <;> rfl

/-! ### Transitions of one head -/

/-- `t` differs from `s` in no head but `h`. -/
def State.OnlyHead (h : HeadIx) (s t : State) : Prop := ∀ k : HeadIx, k ≠ h → t.heads[k.val] = s.heads[k.val]

theorem State.OnlyHead.refl (h : HeadIx) (s : State) : State.OnlyHead h s s := fun _ _ => rfl

theorem State.OnlyHead.trans {h : HeadIx} {a b c : State} (x : State.OnlyHead h a b) (y : State.OnlyHead h b c) :
    State.OnlyHead h a c := fun k ne => (y k ne).trans (x k ne)

/-- An operation that moves no head. -/
theorem State.OnlyHead.of_heads {h : HeadIx} {s t : State} (e : t.heads = s.heads) : State.OnlyHead h s t := fun k _ => by rw [e]

theorem State.modHead_only (s : State) (h : HeadIx) (f : Head → Head) : State.OnlyHead h s (s.modHead h f) :=
  fun k ne => s.modHead_get_ne h f k ne

theorem State.setModes_only (s : State) (h : HeadIx) (m : ZoneIx → ZoneMode) : State.OnlyHead h s (s.setModes h m) :=
  s.modHead_only h _

/-- A release of a head's dose ends at the head with no dose, and nothing else of it changed (R71). -/
theorem State.releaseDose_heads (s : State) (h : HeadIx) :
    (s.releaseDose h).heads = (s.modHead h fun d => { d with dose := none }).heads := by
  unfold State.releaseDose
  split
  · next e =>
    have : ({ s.heads[h.val] with dose := none } : Head) = s.heads[h.val] := by
      cases e' : s.heads[h.val]
      simp_all
    simp [this]
  · dsimp only
    split <;> simp

theorem State.endStep_only (s : State) (h : HeadIx) (why : StepReason) : State.OnlyHead h s (s.endStep h why) := by
  unfold State.endStep
  dsimp only
  split
  · exact .refl h s
  · intro k ne
    rw [State.modHead_get_ne _ _ _ _ ne]
    simp

theorem State.endHeld_only (s : State) (h : HeadIx) (why : StepReason) : State.OnlyHead h s (s.endHeld h why) := by
  unfold State.endHeld
  dsimp only
  split
  · exact .refl h s
  · intro k ne
    rw [State.modHead_get_ne _ _ _ _ ne]
    simp

theorem State.releaseDose_only (s : State) (h : HeadIx) : State.OnlyHead h s (s.releaseDose h) := fun k ne => by
  rw [s.releaseDose_heads h]
  exact s.modHead_get_ne h _ k ne

/-- Entry to HALTED moves no other head. -/
theorem State.haltHead_only (s : State) (h : HeadIx) (why : HaltReason) (zone : Option ZoneIx) (watch : Option WatchIx) :
    State.OnlyHead h s (s.haltHead h why zone watch) := by
  unfold State.haltHead
  split
  · exact .refl h s
  · dsimp only
    intro k ne
    simp only [testReady_heads, post_heads, dropHolder_heads, unbind_heads]
    refine State.OnlyHead.trans (State.OnlyHead.trans ?_ (State.modHead_only _ h _)) (State.releaseDose_only _ h) k ne
    have h1 := (s.setModes_only h (s.heads[h.val].standby).mode).trans (State.modHead_only (s.toStandby h) h
      fun d => { d.zeroCommands.stopSupervision with updateDue := none })
    split
    · exact h1.trans (State.endHeld_only _ h _)
    · exact h1.trans (State.endStep_only _ h _)

/-- After an entry to HALTED the head is HALTED. -/
theorem State.haltHead_state (s : State) (h : HeadIx) (why : HaltReason) (zone : Option ZoneIx) (watch : Option WatchIx) :
    (s.haltHead h why zone watch).heads[h.val].state = .halted := by
  unfold State.haltHead
  split
  · next e => exact e
  · simp [State.releaseDose_heads]

/-- The entry records its reason, and leaves the head with an empty barrier snapshot and no dose. -/
theorem State.haltHead_reason (s : State) (h : HeadIx) (why : HaltReason) (zone : Option ZoneIx) (watch : Option WatchIx)
    (ne : s.heads[h.val].state ≠ .halted) :
    (s.haltHead h why zone watch).heads[h.val].haltReason = some why ∧ (s.haltHead h why zone watch).heads[h.val].snapshot = []
      ∧ (s.haltHead h why zone watch).heads[h.val].dose = none := by
  unfold State.haltHead
  rw [if_neg ne]
  simp [State.releaseDose_heads]

/-- Entry to RELEASING moves no other head. -/
theorem State.enterReleasing_only (s : State) (h : HeadIx) : State.OnlyHead h s (s.enterReleasing h) := by
  unfold State.enterReleasing
  intro k ne
  rw [State.modHead_get_ne _ _ _ _ ne]
  simp only [dropHolder_heads]
  exact State.OnlyHead.trans (State.modHead_only _ h _) (State.releaseDose_only _ h) k ne

theorem State.starveEnd_only (s : State) (h : HeadIx) : State.OnlyHead h s (s.starveEnd h) :=
  (s.endHeld_only h _).trans (State.enterReleasing_only _ h)

theorem State.enterStarved_only (s : State) (h : HeadIx) (ended : Step) : State.OnlyHead h s (s.enterStarved h ended) := by
  unfold State.enterStarved
  dsimp only
  split
  · exact (State.modHead_only _ h _).trans (State.starveEnd_only _ h)
  · exact State.modHead_only _ h _

theorem State.pressOn_only (s : State) (h : HeadIx) (t : Step) : State.OnlyHead h s (s.pressOn h t) := by
  unfold State.pressOn
  dsimp only
  split
  · intro k ne
    rw [State.modHead_get_ne _ _ _ _ ne, State.modCond_heads]
  · exact State.modHead_only _ h _

/-- Entry to PRESSING moves no other head, even where its binding fails. -/
theorem State.enterPressing_only (s : State) (h : HeadIx) : State.OnlyHead h s (s.enterPressing h) := by
  unfold State.enterPressing
  split
  · exact .refl h s
  · next t _ =>
    have h2 : ∀ u : State, State.OnlyHead h s u → State.OnlyHead h s (match t.watch with
        | none => u.pressOn h t
        | some w =>
          if u.watches[w.val].state = .undefined then u.haltHead h .watchMissing none (some w)
          else if u.watches[w.val].bound.isSome && u.watches[w.val].bound != some h then u.haltHead h .watchBusy none (some w)
          else (u.bind w h).pressOn h t) := fun u hu => by
      split
      · exact hu.trans (State.pressOn_only _ _ _)
      · split
        · exact hu.trans (State.haltHead_only _ _ _ _ _)
        · split
          · exact hu.trans (State.haltHead_only _ _ _ _ _)
          · exact (hu.trans (.of_heads (State.modWatch_heads _ _ _))).trans (State.pressOn_only _ _ _)
    dsimp only
    apply h2
    have h1 := (State.modHead_only s h fun d =>
      { (d.mapZones fun _ z => { z with rampStart := if z.mode = .pressure then (z.command : Int) else 0, deviating := none }) with
        state := .pressing, pressStart := s.now, endpoint := none, supervision := .ramping,
        updateDue := some (s.now + Config.updatePeriod) }).trans (State.setModes_only _ h fun _ => .pressure)
    split
    · exact h1.trans (State.modHead_only _ h _)
    · exact h1

theorem State.enterWetting_only (s : State) (h : HeadIx) : State.OnlyHead h s (s.enterWetting h) := by
  unfold State.enterWetting
  split
  · exact .refl h s
  · dsimp only
    split
    · exact (State.modHead_only _ h _).trans (State.enterPressing_only _ h)
    · exact State.modHead_only _ h _

/-- The succession of steps moves no other head. -/
theorem State.succeed_only (s : State) (h : HeadIx) (ended : Step) : State.OnlyHead h s (s.succeed h ended) := by
  unfold State.succeed
  split
  · dsimp only
    split
    · refine State.OnlyHead.trans ?_ (State.enterPressing_only _ h)
      split
      · exact State.modHead_only _ h _
      · exact (State.modHead_only _ h _).trans (.of_heads (State.dropHolder_heads _ _))
    · exact (State.modHead_only _ h _).trans (State.enterReleasing_only _ h)
  · split
    · exact s.enterStarved_only h ended
    · exact s.enterReleasing_only h

theorem State.endAndSucceed_only (s : State) (h : HeadIx) (why : StepReason) : State.OnlyHead h s (s.endAndSucceed h why) := by
  unfold State.endAndSucceed
  split
  · exact .refl h s
  · exact (s.endStep_only h why).trans (State.succeed_only _ h _)

theorem State.submitHead_only (s : State) (h : HeadIx) : State.OnlyHead h s (s.submitHead h) := by
  unfold State.submitHead
  split
  · split
    · exact .refl h s
    · dsimp only
      split
      · exact s.haltHead_only h _ _ _
      · intro k ne
        simp only [attempt_heads, enqueue_heads]
        exact s.modHead_get_ne h _ k ne
  · exact .refl h s

theorem State.testArmed_only (s : State) (h : HeadIx) : State.OnlyHead h s (s.testArmed h) := by
  unfold State.testArmed
  dsimp only
  split
  · exact .refl h s
  · split
    · split
      · exact (State.modHead_only _ h _).trans (State.submitHead_only _ h)
      · exact s.enterWetting_only h
    · exact .refl h s

theorem State.checkStation_only (s : State) (h : HeadIx) : State.OnlyHead h s (s.checkStation h) := by
  unfold State.checkStation
  split
  · exact .refl h s
  · split
    · exact s.testArmed_only h
    · exact s.haltHead_only h _ _ _

theorem State.enterArmed_only (s : State) (h : HeadIx) : State.OnlyHead h s (s.enterArmed h) := by
  unfold State.enterArmed
  split
  · exact .refl h s
  · dsimp only
    split
    · exact (State.modHead_only _ h _).trans (.of_heads (State.testReady_heads _))
    · exact (State.modHead_only _ h _).trans (State.checkStation_only _ h)

theorem State.tellIndexDone_only (s : State) (h : HeadIx) : State.OnlyHead h s (s.tellIndexDone h) := by
  unfold State.tellIndexDone
  dsimp only
  split
  · exact (State.modHead_only _ h _).trans (State.checkStation_only _ h)
  · exact .refl h s

theorem State.releaseEnd_only (s : State) (h : HeadIx) : State.OnlyHead h s (s.releaseEnd h) := by
  unfold State.releaseEnd
  dsimp only
  have h1 := (s.setModes_only h (s.heads[h.val].standby).mode).trans (State.modHead_only (s.toStandby h) h
    fun d => { d.zeroCommands with updateDue := none })
  split
  · exact h1.trans (State.enterArmed_only _ h)
  · exact h1.trans ((State.modHead_only _ h _).trans (.of_heads (State.testReady_heads _)))

end Sys2Proof.Machine
end

