-- ==== Sys2Proof/Laws/Lines.lean ====
section
/-! SUPPORT. What an admission does to the records, said once: it takes queued records to OPENING at the present moment and moves no
other record (R93). -/

namespace Sys2Proof.Machine

/-- Every record is as before, or was QUEUED and is OPENING since `now`. -/
def Opened (now : Nat) (s t : Vector DoseRec 64) : Prop :=
  ∀ r : RecIx, t[r.val] = s[r.val] ∨ (s[r.val].state = .queued ∧ t[r.val] = { s[r.val] with state := .opening, since := now })

theorem Opened.refl (now : Nat) (s : Vector DoseRec 64) : Opened now s s := fun _ => .inl rfl

theorem Opened.trans {now : Nat} {a b c : Vector DoseRec 64} (h : Opened now a b) (k : Opened now b c) : Opened now a c := fun r => by
  rcases k r with e | ⟨q, e⟩
  · rw [e]
    exact h r
  · rcases h r with e' | ⟨_, e'⟩
    · rw [e'] at q e
      exact .inr ⟨q, e⟩
    · rw [e'] at q
      cases q

@[simp] theorem State.settleCheck_recs (s : State) (l : LineIx) : (s.settleCheck l).recs = s.recs := by
  unfold State.settleCheck
  split <;> rfl

@[simp] theorem State.choose_recs (s : State) (l : LineIx) : (s.choose l).1.recs = s.recs := by
  unfold State.choose
  split
  · rfl
  · split
    · rfl
    · split <;> rfl

@[simp] theorem State.settleCheck_platens (s : State) (l : LineIx) : (s.settleCheck l).platens = s.platens := by
  unfold State.settleCheck
  split <;> rfl

/-- `t` differs from `s` in no line but `l`. -/
def State.OnlyLine (l : LineIx) (s t : State) : Prop := ∀ k : LineIx, k ≠ l → t.lines[k.val] = s.lines[k.val]

theorem State.OnlyLine.refl (l : LineIx) (s : State) : State.OnlyLine l s s := fun _ _ => rfl

theorem State.OnlyLine.trans {l : LineIx} {a b c : State} (x : State.OnlyLine l a b) (y : State.OnlyLine l b c) :
    State.OnlyLine l a c := fun k ne => (y k ne).trans (x k ne)

theorem State.modLine_only (s : State) (l : LineIx) (f : Line → Line) : State.OnlyLine l s (s.modLine l f) :=
  fun k ne => s.modLine_get_ne l f k ne

/-- A flow check moves only its own line. -/
theorem State.settleCheck_only (s : State) (l : LineIx) : State.OnlyLine l s (s.settleCheck l) := by
  unfold State.settleCheck
  split
  · exact .refl l s
  · exact s.modLine_only l _

/-- An ending moves its own record alone: OPENING and FLOWING go to CLOSING, every other state stays. -/
theorem State.close_recs (s : State) (r : RecIx) (why : DoseReason) :
    (s.close r why).recs = if s.recs[r.val].state.live then
        s.recs.set r.val { s.recs[r.val] with state := .closing, reason := some why, since := s.now } else s.recs := by
  unfold State.close
  split <;> simp

/-- An admission of a QUEUED record moves that record alone, to OPENING. -/
theorem State.admitDose_recs (s : State) (l : LineIx) (c : ClassIx) (r : RecIx) (p : PlatenIx) (q : s.recs[r.val].state = .queued) :
    Opened s.now s.recs (s.admitDose l c r p).recs := fun k => by
  have e : (s.admitDose l c r p).recs = s.recs.set r.val { s.recs[r.val] with state := .opening, since := s.now } := by
    simp [State.admitDose]
  rw [e, get_set]
  split
  · next h => subst h; exact .inr ⟨q, rfl⟩
  · exact .inl rfl

/-- An admission leaves every line but its own. -/
theorem State.admitDose_only (s : State) (l : LineIx) (c : ClassIx) (r : RecIx) (p : PlatenIx) : State.OnlyLine l s (s.admitDose l c r p) := by
  unfold State.admitDose
  refine State.OnlyLine.trans ?_ (State.settleCheck_only _ l)
  intro k ne
  rw [State.modRec_lines, State.modPlaten_lines]
  exact s.modLine_get_ne l _ k ne

/-- A class choice leaves every line but its own. -/
theorem State.choose_only (s : State) (l : LineIx) : State.OnlyLine l s (s.choose l).1 := by
  unfold State.choose
  split
  · exact .refl l s
  · split
    · exact .refl l s
    · split
      · exact s.modLine_only l _
      · exact .refl l s

theorem State.admitMany_only (l : LineIx) (fuel : Nat) (s : State) : State.OnlyLine l s (State.admitMany l fuel s) := by
  induction fuel generalizing s with
  | zero => exact .refl l s
  | succ n ih =>
    unfold State.admitMany
    have h := s.choose_only l
    split
    · next e => rw [e] at h; exact h
    · next e =>
      rw [e] at h
      split
      · exact h
      · split
        · exact (h.trans (State.admitDose_only _ _ _ _ _)).trans (ih _)
        · exact h.trans (State.modLine_only _ _ _)

/-- An admission attempt of one line moves no other line. -/
theorem State.attempt_only (s : State) (l : LineIx) : State.OnlyLine l s (s.attempt l) := by
  unfold State.attempt
  dsimp only
  split
  · exact (s.modLine_only l _).trans (State.admitMany_only _ _ _)
  · exact s.modLine_only l _

end Sys2Proof.Machine
end

