-- ==== Sys2Proof/Tests/Slice0.lean ====
section
/-! SUPPORT. Tests of single steps, whose expected results are the manual's worked figures or hand calculation from its rules, and for
each obligation a state and operands that meet its hypotheses. -/

open Sys2Proof Sys2Proof.Machine

namespace Sys2Proof.Tests

-- One theorem after another, so that few threads wait for the kernel at a time.
set_option Elab.async false

/-! ### Small states -/

/-- The state after a command; every command answers a next state. -/
def after (c : Instr) (s : State) : State :=
  match exec c s with
  | .next t => t
  | .fault _ => s
  | .refused _ => s

/-- A part that runs, right after power-on, IN-POSITION asserted at position 0: H1 stands at P1. -/
def up : State := { State.reset with power := .running, inPosition := true, car := { State.reset.car with state := .idle } }

/-- The same part with a frame on its way out, so that replies and notices wait. -/
def busy : State := up.modLink fun k => { k with tx := some ⟨0xC0, 0x80, []⟩ }

/-- A step for P1 without a line and without a watch, with the targets and the ramp of 2.8.1. -/
def plain : Step where
  label := 7
  platen := 0
  chain := false
  awaitIndex := false
  needEndpoint := false
  waitDoses := false
  condInsitu := false
  timeLimit := 60000
  rampTime := 2000
  targets := #v[3000, 0, 0, 0, 3500]
  line := none
  purpose := 0
  rate := 0
  lead := 0
  watch := none
  overpolish := 0

/-- The part with P1 in POLISHING. -/
def polishing : State := busy.modPlaten 0 fun c => { c with mode := .polishing }

/-- H1 in state `d` at its platen P1, the step `t` current. -/
def working (d : HeadState) (t : Step) : State :=
  polishing.modHead 1 fun h => { h with state := d, steps := [t], current := true, updateDue := some 10 }

/-! ### Well-formed commands: each check refuses an ill-formed command -/

theorem test_wellFormed_body : (Instr.stepLoad 0 (List.replicate 249 0)).wellFormed = false
    ∧ (Instr.stepLoad 0 (List.replicate 248 0)).wellFormed = true := by decide +kernel

theorem test_wellFormed_kind : (Instr.unknownKind 0x18 0 []).wellFormed = false
    ∧ (Instr.unknownKind 0x1A 0 []).wellFormed = true := by decide

theorem test_wellFormed_order : (Instr.stopAssert [.pool, .head 2, .pool]).wellFormed = false
    ∧ (Instr.stopAssert [.pool, .head 2]).wellFormed = true ∧ (Instr.startupReadEnd [.interlock, .interlock]).wellFormed = false
    ∧ (Instr.sourceSample .constant 0 [.watch 1, .watch 1]).wellFormed = false := by decide

/-! ### No row of the table has bits -/

theorem test_decode_spells_no_command : decodeTableWord 8 0x18 = none ∧ State.reset.withFetchWord 8 0x18 = State.reset :=
  ⟨rfl, rfl⟩

/-! ### Arithmetic (4.4) -/

theorem test_rounding : roundDiv 5 2 = 3 ∧ roundDiv (-5) 2 = -3 ∧ roundDiv 162447 100 = 1624 ∧ truncDiv (-174) 10 = -17 := by decide

/-! ### Frames (R179): the CHECK of the nine characters 1 to 9 -/

theorem test_check_value : crc [0x31, 0x32, 0x33, 0x34, 0x35, 0x36, 0x37, 0x38, 0x39] = 0x29B1 := by decide +kernel

/-! ### Zones (2.8.1, 2.8.2, 2.8.3) -/

theorem test_ramp_figures : rampValue 2000 3500 2000 700 = 2525 ∧ rampValue 2500 3000 2000 700 = 2675
    ∧ rampValue 3145 0 500 130 = 2328 ∧ rampValue 9 4 0 0 = 4 := by decide

theorem test_margin_figures : ringMargin 500 2675 2645 = (3145, 2645, true) ∧ ringMargin 2500 0 6000 = (8000, 5500, true)
    ∧ stage3 4 6100 = 6000 := by decide

theorem test_regulator_figures : ZoneCal.codeOf ⟨0, 205, 6000, 3890⟩ 2645 = 1829 ∧ ZoneCal.codeOf ⟨0, 180, 8000, 3950⟩ 3145 = 1662
    ∧ (ZoneCal.default 4).codeOf 5500 = 3754 ∧ (ZoneCal.default 0).codeOf 8000 = 4095 := by decide

theorem test_update_computes_the_commands :
    let s := (working .pressing plain).modHead 1 fun d =>
      { d with pressStart := 0, updateDue := some 700,
               zones := d.zones.mapFinIdx fun i z _ =>
                 { z with mode := .pressure, rampStart := if i = 0 then 2500 else 2000, trim := if i = 4 then 120 else 0 } }
    let d := (after (.headUpdateTimer 1) s).heads[1]
    d.zones[4].command = 2645 ∧ d.zones[0].command = 3145 ∧ d.marginActive = true ∧ d.marginLimited = true
      ∧ d.updateDue = some 710 := by decide +kernel

/-! ### Signals (9.2.1, 9.4.1) -/

theorem test_scaling_figures : InputCal.scale ⟨1200, 0, 60000, 8000⟩ 21350 = 2741 ∧ InputCal.scale ⟨1200, 0, 60000, 8000⟩ 600 = -82
    ∧ InputCal.scale ⟨1000, 0, 61000, 8000⟩ 21350 = 2713 := by decide

theorem test_monitor_figures : Route.codeOf ⟨.constant, 0, 6000⟩ 2645 = 1805 ∧ Route.codeOf ⟨.constant, 0, 6000⟩ (-94) = 0
    ∧ Route.codeOf ⟨.constant, 0, 6000⟩ 6200 = 4095 ∧ Route.codeOf ⟨.constant, 1000, 0⟩ 250 = 3071
    ∧ Route.codeOf ⟨.constant, 1000, 0⟩ 500 = 2047 := by decide

theorem test_inputCal_clears_the_offset :
    let s := ((busy.modHead 1 fun d => d.modZone 4 fun z => { z with offset := 12, drift := true }).modHub fun u =>
      { u with channels := u.channels.set 9 ⟨⟨1200, 0, 60000, 8000⟩, 21350, 2741⟩ })
    let t := after (.inputCal 1 (p1 9 ++ p2 1000 ++ s4 0 ++ p2 61000 ++ s4 8000)) s
    s.processed 1 4 = 2729 ∧ t.processed 1 4 = 2713 ∧ t.heads[1].zones[4].drift = false := by decide +kernel

theorem test_sourceSample_converts_and_drives :
    let s := busy.modHub fun u =>
      { u with channels := u.channels.set 9 ⟨⟨1200, 0, 60000, 8000⟩, 0, 0⟩,
               monitors := u.monitors.set 0 ⟨⟨.pressure 1 4, 0, 6000⟩, 0⟩ }
    let t := after (.sourceSample (.pressure 1 4) 21350 []) s
    t.hub.channels[9].scaled = 2741 ∧ t.hub.monitors[0].code = 1870 := by decide +kernel

/-! ### Learning (7.7.1, 7.7.2) -/

theorem test_learning_figures : (LearnedEntry.update ⟨true, 400, none⟩ 264 5).torque = 383 ∧ learnedFactor 450 383 = 301
    ∧ dwellTime 200 301 = 235 ∧ learnedFactor 450 600 = 192 ∧ dwellTime 200 192 = 150 ∧ learnedFactor 450 150 = 512
    ∧ dwellTime 200 512 = 400 := by decide

theorem test_precedence_figures : factorFor ⟨true, true, 300⟩ ⟨true, 383, some 0⟩ 450 1 = (300, .static)
    ∧ factorFor ⟨true, false, 280⟩ ⟨true, 383, some 0⟩ 450 1 = (301, .learned)
    ∧ factorFor ⟨true, false, 200⟩ ⟨true, 383, none⟩ 450 1 = (200, .static)
    ∧ factorFor ⟨false, true, 300⟩ ⟨true, 383, some 0⟩ 450 600000 = (256, .default) := by decide

theorem test_condDwellEnd_learns :
    let s := (busy.modPlaten 1 fun c => { c with mode := .polishing }).modCond 1 fun c =>
      { c with arm := .sweeping, host := some .continuous, segment := 4, dwell := 235, torqueSum := 528, torqueCount := 2 }
    let s := s.modWear 1 fun m => m.modLearned 4 fun _ => ⟨true, 400, none⟩
    let t := after (.condDwellEnd 1) s
    t.wears[1].learned[4] = ⟨true, 383, some 235⟩ ∧ t.conds[1].segment = 5 ∧ t.conds[1].learned = 1 := by decide +kernel

/-! ### A capped dose (4.11) -/

/-- Record 12 of 4.11, flowing 1500 ms after the start of its first segment. -/
def capped : State :=
  (busy.modRec 12 fun d =>
    { d with state := .flowing, platen := some 0, line := 2, segments := [⟨200, some 1500⟩, ⟨350, some 4000⟩], cap := some 250,
             peak := 350, segment := 1, segTime := 0, tickDue := 301 }).modLine 2 fun c =>
    { c with state := .ready, admitted := [12], reservation := 350 }

theorem test_doseSegmentEnd : let d := (after (.doseSegmentEnd 12) capped).recs[12]
    d.acc = 300000 ∧ d.segment = 2 ∧ d.state = .flowing ∧ d.delivered = 50
      ∧ (after (.doseSegmentEnd 12) capped).now = 1800 := by decide +kernel

theorem test_doseCapReached : let s := after (.doseCapReached 12) (after (.doseSegmentEnd 12) capped)
    s.recs[12].acc = 1500150 ∧ s.recs[12].segTime = 3429 ∧ s.recs[12].flowTime = 4929 ∧ s.recs[12].delivered = 250
      ∧ s.recs[12].state = .closing ∧ s.recs[12].reason = some .capped ∧ s.now = 5229 := by decide +kernel

/-! ### One attempt on a weighted line (5.11) -/

/-- The seven doses of 5.11, queued on L1 under STOP. -/
def seven : State :=
  let put (s : State) (r : RecIx) (p : PlatenIx) (c : ClassIx) (k : Nat) : State :=
    (s.modRec r fun d => { d with state := .queued, platen := some p, line := 1, cls := c, peak := k }).modLine 1 fun n =>
      { n with queues := n.queues.set c.val (n.queues[c.val] ++ [r]) }
  let s := (busy.modPlaten 0 fun c => { c with mode := .polishing }).modPlaten 1 fun c => { c with mode := .polishing }
  let s := s.modLine 1 fun c =>
    { c with state := .ready, credits := #v[1, 1, 1, 2], config := { c.config with weights := #v[1, 1, 1, 2] } }
  let s := put (put (put (put (put (put (put s 8 0 3 100) 9 0 3 150) 10 1 3 100) 11 1 2 200) 12 0 0 50) 13 0 3 200) 14 1 1 50
  { s with stop := true }

theorem test_stopRelease_runs_one_attempt : let t := after .stopRelease seven
    t.lines[1].admitted = [8, 9, 11, 14, 12] ∧ t.lines[1].stoppedAt = some 10 ∧ t.lines[1].reservation = 550
      ∧ t.platens[0].reservation = 300 ∧ t.platens[1].reservation = 250 ∧ t.lines[1].credits = #v[1, 1, 1, 2]
      ∧ t.platens[0].nextLine = 2 := by decide +kernel

theorem test_strict_line_stops_at_the_class_below :
    let t := after .stopRelease (seven.modLine 1 fun c => { c with config := { c.config with scheme := .strict } })
    t.lines[1].admitted = [8, 9, 10, 13] ∧ t.lines[1].stoppedAt = some 11 ∧ t.lines[1].credits = #v[1, 1, 1, 2] := by
  decide +kernel

/-! ### An endpoint on falling reflectance (6.10) -/

/-- W4 of 6.10 after the blank time, bound to H1. -/
def falling : Watch :=
  { Watch.powerOn with
    state := .watching, bound := some 1,
    defn := { WatchDef.zero with
      source := .reflectance 1, relation := .falls, threshold := 400, count := 4, window := 80, blank := 3000, hold := 30 } }

/-- The watch after samples at step clock 3005, 3015 and so on, and whether it fired at the last. -/
def sampled (xs : List Int) : Watch × Bool :=
  (xs.foldl (fun a v => ((a.1.1.evaluate v a.2), a.2 + 10)) ((falling, false), 3005)).1

theorem test_window_restarts_the_filter : (sampled [620, 612, 598, 604, 420]).1.history = [420]
    ∧ (sampled [620, 612, 598, 604]).1.prevAvg = some 608 := by decide +kernel

theorem test_falls_holds_then_fires : (sampled [620, 612, 598, 604, 420, 398]).1.state = .watching
    ∧ (sampled [620, 612, 598, 604, 420, 398, 380]).1.state = .holding
    ∧ (sampled [620, 612, 598, 604, 420, 398, 380, 376, 370]).2 = false
    ∧ (sampled [620, 612, 598, 604, 420, 398, 380, 376, 370, 368]).2 = true
    ∧ (sampled [620, 612, 598, 604, 420, 398, 380, 376, 370, 368]).1.prevAvg = some 373 := by decide +kernel

/-! ### A stray sync byte (10.2.1) -/

theorem test_gap_rescan_finds_the_request :
    let bytes : List Byte := [0xA5] ++ (Frame.mk 0x18 0x21 [2]).bytes
    let s := (bytes.zipIdx.foldl (fun s b => after (.byteArrival b.1) (if b.2 = 1 then { s with now := 12 } else s)) busy)
    s.link.replies = [] ∧ (after .receiveGapTimeout s).link.replies.map Frame.tag = [0x21]
      ∧ (after .receiveGapTimeout s).link.replies.map Frame.kind = [0x98] ∧ (after .receiveGapTimeout s).now = 32 := by
  decide +kernel

/-! ### Heads, platens, lines -/

theorem test_headStart_presses :
    let t := after (.headStart 9 [1]) (polishing.modHead 1 fun d => { d with steps := [plain] })
    t.heads[1].state = .pressing ∧ t.heads[1].zones[0].mode = .pressure ∧ t.heads[1].zones[0].command = 500
      ∧ t.link.replies = [⟨0x91, 9, [0, 0]⟩] := by decide +kernel

theorem test_headHalt_ends_the_step : let t := after (.headHalt 3 [1]) (working .pressing plain)
    t.heads[1].state = .halted ∧ t.heads[1].zones[3].mode = .vent
      ∧ t.link.notices = [.stepEnd 1 7 .halted 0 false none, .headHalted 1 .host none none] := by decide +kernel

theorem test_platenMode_halts_the_head : let t := after (.platenMode 4 [1, 3]) (working .pressing plain)
    t.heads[1].haltReason = some .platenMode ∧ t.link.replies = [⟨0xA0, 4, [0, 0, 4, 0, 1]⟩] := by decide +kernel

theorem test_trimSet_clamps : let t := after (.trimSet 5 (p1 2 ++ s2 1001 ++ s2 0 ++ s2 0 ++ s2 0 ++ s2 (-2000))) busy
    t.heads[2].zones[0].trim = 1000 ∧ t.heads[2].zones[4].trim = -1000 ∧ t.link.replies = [⟨0x96, 5, [0, 1]⟩] := by
  decide +kernel

theorem test_doseSubmit_fills_record_8 :
    let s := busy.modLine 0 fun c => { c with state := .ready }
    let t := after (.doseSubmit 6 (p2 77 ++ [1, 0, 2, 0] ++ p2 0 ++ p2 1 ++ p4 0 ++ p2 100 ++ p4 1000)) s
    t.recs[8].state = .queued ∧ t.recs[8].label = 77 ∧ t.free.length = 55
      ∧ t.link.replies = [⟨0xA8, 6, [0, 0, 8, 1, 0, 0, 0, 1, 55]⟩] := by decide +kernel

theorem test_lineTeardown_closes_the_dose :
    let t := after (.lineTeardown 7 [2]) capped
    t.lines[2].state = .teardown ∧ t.recs[12].reason = some .tornDown ∧ t.link.replies = [⟨0xB2, 7, [0, 0, 0, 1]⟩] := by
  decide +kernel

theorem test_frameSent_flags_the_loss :
    let t := after .frameSent (busy.modLink fun k => { k with loss := true, notices := [.stopChange true] })
    t.link.tx = some ⟨0xCA, 0x81, [1]⟩ ∧ t.link.loss = false := by decide +kernel

theorem test_post_to_a_full_queue :
    let t := after .stopRelease { busy with stop := true, link := { busy.link with notices := List.replicate 32 (.stopChange true) } }
    t.link.loss = true ∧ t.link.notices.length = 32 := by decide +kernel

/-! ### Carousel, start-up, saves -/

theorem test_inPositionChange_completes_the_index :
    let s := { busy with inPosition := false }.modCar fun c => { c with state := .moving, start := 0, phase := .arriving }
    let t := after (.inPositionChange true 1) s
    t.car.state = .idle ∧ t.car.position = 1 ∧ t.link.notices = [.indexEnd .done 0 1 .moving 0] := by decide +kernel

theorem test_inPositionChange_faults_elsewhere :
    let s := { busy with inPosition := false }.modCar fun c => { c with state := .moving, start := 0, phase := .arriving }
    let t := after (.inPositionChange true 2) s
    t.car.state = .fault ∧ t.car.position = 0 ∧ t.link.notices = [.indexFault (.misposition 2) 0 .arriving 0] := by
  decide +kernel

theorem test_startupReadEnd_posts_started : let t := after (.startupReadEnd []) State.reset
    t.now = 250 ∧ t.car.state = .fault ∧ t.link.tx = some ⟨0xC0, 0x80, [0, 1, 1, 0, 0]⟩ := by decide +kernel

theorem test_saveWriteEnd_signs : let t := after .saveWriteEnd (after (.settingsSave 1 []) busy)
    t.store.image.signed = true ∧ t.now = 800 ∧ t.link.notices = [.saveEnd .settingsSave] := by decide +kernel

/-! ### For each obligation, a state and operands that meet its hypotheses -/

theorem exec_after (c : Instr) (s : State) : exec c s = .next (after c s) := by cases c <;> rfl

theorem step_after (c : Instr) (rest : List Instr) (s : State) :
    step { s with pending := c :: rest } = .next (after c { s with pending := rest }) := exec_after _ _

theorem witness_StepTakesTheFrontCommand :
    { up with pending := [.frameSent, .powerOn] }.pending = .frameSent :: [.powerOn] ∧ up.pending = [] := ⟨rfl, rfl⟩

theorem witness_EveryCommandCompletesAndKeepsTheQueue : State.reset.running = false ∧ Instr.frameSent.restarts = false := ⟨rfl, rfl⟩

theorem witness_OnlyTheirOwnCommandsChangeSettingsAndWires_wires :
    exec .stopRelease { up with stop := true } = .next (after .stopRelease { up with stop := true })
    ∧ (after .stopRelease { up with stop := true }).stop ≠ true
    ∧ (after (.inPositionChange false 3) up).pos ≠ up.pos ∧ (after (.inPositionChange false 0) up).inPosition ≠ up.inPosition
    ∧ (after .powerLoss up).power ≠ up.power := by
  refine ⟨exec_after _ _, ?_⟩
  decide +kernel

theorem witness_OnlyTheirOwnCommandsChangeSettingsAndWires_position :
    let s := { up with pos := 2, car := { up.car with state := .fault } }
    (after (.indexResync 0 []) s).car.position ≠ s.car.position := by decide +kernel

/-- The bodies of requests that change a setting of head 1, platen 1, line 0 and the hub. -/
def limitsBody : List Byte := p1 1 ++ many p2 [600, 300, 500, 300, 2000, 500, 50, 10, 200]
def calBody : List Byte := p1 1 ++ p1 4 ++ p2 0 ++ p2 205 ++ p2 6000 ++ p2 3890
def platenBody : List Byte := p1 1 ++ p2 400 ++ p1 3 ++ many p1 [0, 0, 1, 1, 2, 2, 3, 3]
def lineBody : List Byte := p1 0 ++ p2 500 ++ p1 1 ++ many p1 [6, 3, 2, 1] ++ p1 7 ++ p2 3000 ++ p1 20 ++ p2 2000
def profileBody : List Byte := p1 1 ++ p2 300 ++ p2 450 ++ p2 2000
def wearBody : List Byte := p1 1 ++ p1 9 ++ p1 1 ++ p1 1 ++ p2 512
def inputBody (channel : Nat) : List Byte := p1 channel ++ p2 0 ++ s4 0 ++ p2 1 ++ s4 10
def routeBody : List Byte := p1 1 ++ p1 0x14 ++ s4 0 ++ s4 6000

theorem witness_OnlyTheirOwnCommandsChangeSettingsAndWires_headSettings :
    (after (.headLimits 0 limitsBody) up).heads[1].limits ≠ up.heads[1].limits
    ∧ (after (.zoneCal 0 calBody) up).heads[1].zones[4].cal ≠ up.heads[1].zones[4].cal
    ∧ (after (.headStandby 0 [1, 1]) up).heads[1].standby ≠ up.heads[1].standby
    ∧ (Instr.headLimits 0 limitsBody).restarts = false ∧ (Instr.headLimits 0 limitsBody).carriesFrames = false := by
  decide +kernel

theorem witness_OnlyTheirOwnCommandsChangeSettingsAndWires_otherSettings :
    (after (.platenMode 0 [1, 1]) up).platens[0].mode ≠ up.platens[0].mode
    ∧ (after (.platenConfig 0 platenBody) up).platens[0].config ≠ up.platens[0].config
    ∧ (after (.lineConfig 0 lineBody) up).lines[0].config ≠ up.lines[0].config
    ∧ (after (.condProfile 0 profileBody) up).conds[0].profile ≠ up.conds[0].profile
    ∧ (after (.wearSet 0 wearBody) up).wears[0].statics[9] ≠ up.wears[0].statics[9]
    ∧ (after (.inputCal 0 (inputBody 32)) up).hub.channels[32].cal ≠ up.hub.channels[32].cal
    ∧ (after (.monitorRoute 0 routeBody) up).hub.monitors[1].route ≠ up.hub.monitors[1].route
    ∧ (after (.indexRequest 0 (p2 500 ++ p2 0)) up).car.liftTime ≠ up.car.liftTime := by decide +kernel

/-- W0 in WATCHING on the latch 7, to copy the constant into latch 2 at any value above −1. -/
def latching : State := busy.modWatch 0 fun k =>
  { k with state := .watching,
           defn := { WatchDef.zero with source := .latch 7, relation := .above, threshold := -1, count := 1, action := .latch,
                                        dest := .latch 2 0, copy := .constant } }

theorem witness_OnlyTheirOwnCommandsChangeSettingsAndWires_latchesAndStore :
    (after (.sourceSample (.latch 7) 0 []) latching).latches[2] ≠ latching.latches[2]
    ∧ (let s := up.modCar fun c => { c with liftTime := 900 }
       (after (.settingsSave 0 []) s).store.workConfig ≠ s.store.workConfig)
    ∧ (let s := up.modWear 2 fun m => { m with life := 5 }
       (after (.wearCommit 0 [3]) s).store.workCommitted ≠ s.store.workCommitted) := by decide +kernel

theorem witness_EventsActOnlyInARunningPart :
    State.reset.running = false ∧ ∀ cause since, up.power ≠ .starting cause since := by
  refine ⟨rfl, ?_⟩
  intro cause since h
  cases h

theorem witness_PowerAndRestartResetTheBlocks :
    let s := { up with restart := .replySent }
    s.running = true ∧ s.restart = .replySent ∧ (∀ job, s.store.save ≠ .writing job) ∧ up.running = true
      ∧ up.restart ≠ .replySent := by
  refine ⟨rfl, rfl, ?_, rfl, by decide⟩
  intro job h
  cases h

theorem witness_StartUpTakesTheImageOrTheDefaults :
    State.reset.power = .starting .powerOn 0 ∧ State.reset.link = { Link.powerOn with rx := State.reset.link.rx } ∧ State.reset.stop = false
      ∧ { State.reset with stop := true }.stop = true := ⟨rfl, rfl, rfl, rfl⟩

/-- A part that runs a save from 0 ms on. -/
def saving : State := { busy with store := { busy.store with save := .writing ⟨.settingsSave, busy.store.workConfig, busy.store.workCommitted, 0⟩ } }

theorem witness_IdentifyAnswersThePartText :
    up.isOpen = true ∧ saving.running = true
      ∧ saving.store.save = .writing ⟨.settingsSave, busy.store.workConfig, busy.store.workCommitted, 0⟩
      ∧ (let s := { State.reset with store := { State.reset.store with image := { Image.blank with version := 1 } } }
         s.power = .starting .powerOn 0 ∧ s.store.image.version ≠ 2) := by
  refine ⟨by decide +kernel, rfl, rfl, rfl, by decide⟩

theorem witness_StatusAnswersTwentyThreeBytes_open : up.isOpen = true ∧ busy.isOpen = true ∧ polishing.isOpen = true := by decide +kernel

theorem witness_ReadsAnswerAndChangeNothing : ∀ src : Source, Source.id src ≠ (1 : Byte).toNat := by
  intro src
  cases src <;> simp [Source.id]
  all_goals omega

theorem witness_WrongLengthAndUnknownKindAreRefused :
    (Instr.headHalt 0 []).request = some (0x12, 0, []) ∧ lengthFits 0x12 [] = false ∧ lengthFits 0x12 [0, 0] = false
      ∧ (Instr.doseSubmit 0 (List.replicate 13 0)).request = some (0x28, 0, List.replicate 13 0)
      ∧ lengthFits 0x28 (List.replicate 13 0) = false ∧ lengthFits 0x28 (List.replicate 14 0) = true
      ∧ requestKinds.contains (0x1A : Byte).toNat = false ∧ requestKinds.contains (0xFF : Byte).toNat = false := by decide +kernel

theorem witness_EveryOpenRequestGetsExactlyOneReply :
    (Instr.status 5 []).request = some (0x02, 5, []) ∧ busy.isOpen = true ∧ busy.link.tx.isSome = true
      ∧ up.isOpen = true ∧ up.link.tx = none ∧ up.link.replies = []
      ∧ State.reset.isOpen = false ∧ { State.reset with power := .off }.isOpen = false
      ∧ requestKinds.contains (0x5B : Byte).toNat = true := by decide +kernel

theorem witness_FrameReceivedByteByByteArrives :
    (Frame.mk 0x18 0x21 (List.replicate 248 0)).body.length ≤ 248 ∧ up.isOpen = true ∧ up.link.rx = .hunting := by
  decide +kernel

/-- The part with its receiver collecting, its SYNC and these bytes since received at 0 ms. -/
def collecting (since : List Byte) : State := up.modLink fun k => { k with rx := .collecting ⟨0xA5, 0⟩ (since.map fun b => ⟨b, 0⟩) }

/-- The bytes `since` came at the moment of their SYNC, no gap in them, and leave a frame short. -/
def short (since : List Byte) : Bool :=
  let xs : List RxByte := since.map fun b => ⟨b, 0⟩
  decide (List.IsChain (fun x y : RxByte => y.time ≤ x.time + 20) (⟨0xA5, 0⟩ :: xs))
    && (since.isEmpty || (2 ≤ (since.headD 0).toNat && (since.headD 0).toNat ≤ 250 && since.length < (since.headD 0).toNat + 3))

theorem witness_ReceiverHuntsCollectsAndDiscards_hypotheses :
    up.power ≠ .off ∧ up.link.rx = .hunting ∧ (collecting [2]).link.rx = .collecting ⟨0xA5, 0⟩ [⟨2, 0⟩]
    ∧ (collecting []).now ≤ 0 + 20 ∧ 0 + 20 < { collecting [] with now := 21 }.now ∧ up.isOpen = true
    ∧ { up with restart := .replyWaiting }.isOpen = false ∧ short [] = true ∧ short [2] = true ∧ short [250, 1, 1] = true
    ∧ short [2, 1, 0, 0] = true ∧ short [0] = false ∧ short [2, 1, 0, 0, 0] = false := by decide +kernel

/-- LEN 1 and 251, a frame short by two bytes, a CHECK of zeros and the right CHECK of an IDENTIFY. -/
theorem witness_ReceiverHuntsCollectsAndDiscards_clauses :
    (1 : Byte).toNat < 2 ∧ 250 < (251 : Byte).toNat ∧ [(2 : Byte), 1, 0].length < 2 + 3
    ∧ ([0, 0] : List Byte) ≠ p2 (crc [2, 1, 0]).toNat ∧ (∀ b ∈ [(2 : Byte), 1, 0, 0, 0], b ≠ 0xA5)
    ∧ (Frame.mk 1 0 []).afterSync.drop 3 = p2 (crc [2, 1, 0]).toNat := by decide +kernel

/-- The longest frame a gap sets free behind a stray SYNC, and a frame that the LEN after one takes in with two bytes before it. -/
theorem witness_ReceiverHuntsCollectsAndDiscards_rescan :
    (Frame.mk 1 0 (List.replicate 161 0)).body.length ≤ 161 ∧ (Frame.mk 0x18 9 [2]).body.length ≤ 248
    ∧ 7 + 2 = [(7 : Byte), 7].length + (Frame.mk 0x18 9 [2]).bytes.length ∧ (∀ x ∈ [(7 : Byte), 7], x ≠ 0xA5)
    ∧ (let since := b1 7 :: ([7, 7] ++ (Frame.mk 0x18 9 [2]).bytes)
       since.drop (7 + 1) ≠ p2 (crc (since.take (7 + 1))).toNat
         ∧ ((0xA5 :: since).foldl (fun s b => after (.byteArrival b) s) busy).link.replies.map Frame.tag = [9]) := by decide +kernel

theorem test_closed_receiver_discards_a_good_frame :
    let bytes := (Frame.mk 1 0 []).bytes
    let run := fun s : State => bytes.foldl (fun s b => after (.byteArrival b) s) s
    (run busy).link.replies.map Frame.kind = [0x81] ∧ (run { busy with restart := .replyWaiting }).link.replies = [] := by
  decide +kernel

/-- The part sending a frame, with a reply, a notice and a trace record waiting as asked. -/
def waiting (reply notice slot : Bool) : State := busy.modLink fun k =>
  { k with replies := if reply then [⟨0x81, 1, [0, 0]⟩] else [], notices := if notice then [.stopChange true] else [],
           slot := if slot then some ⟨1, 0, .always, 0, 0, []⟩ else none }

theorem witness_TransmitterChoosesByRank :
    busy.running = true ∧ (waiting true true true).link.tx = some ⟨0xC0, 0x80, []⟩
    ∧ Frame.acceptsRestart ⟨0xC0, 0x80, []⟩ = false ∧ (waiting true true true).link.replies = [⟨0x81, 1, [0, 0]⟩]
    ∧ (waiting false true true).link.replies = [] ∧ (waiting false true true).link.notices = [.stopChange true]
    ∧ (waiting false false true).link.slot = some ⟨1, 0, .always, 0, 0, []⟩ ∧ (waiting false false false).link.slot = none := by
  decide +kernel

/-- The hypotheses of the laws that every step keeps: `up` with a command waiting meets each, and its step answers a next state. -/
theorem witness_EveryStepKeepsTheLawsOfItsBlocks :
    let s := { up with pending := [.stopRelease] }
    step s = .next (after .stopRelease { up with pending := [] }) ∧ s.LinkBounded ∧ s.HeadsWellKept ∧ s.CreditsWithinWeights
      ∧ s.ArmsFollow ∧ s.BoundDefined ∧ s.DosesOfWork ∧ s.FiltersCount := by
  refine ⟨step_after _ _ _, ?_⟩
  unfold State.LinkBounded State.HeadsWellKept Head.WellKept State.CreditsWithinWeights State.ArmsFollow Conditioner.Follows
    State.BoundDefined State.DosesOfWork State.FiltersCount
  decide +kernel

theorem witness_EveryStepKeepsTheLaws_windows : (after (.startupReadEnd []) State.reset).WindowsFollowVent := by
  unfold State.WindowsFollowVent
  decide +kernel

theorem witness_SavesCaptureThenSignTheImage :
    saving.isOpen = true ∧ saving.store.save ≠ .none ∧ busy.isOpen = true ∧ busy.store.save = .none
      ∧ (4 : Byte).toNat > 3 ∧ { saving with restart := .replySent }.restart = .replySent
      ∧ (∀ job, busy.store.save ≠ .writing job) := by
  refine ⟨by decide +kernel, by decide +kernel, by decide +kernel, rfl, by decide, rfl, ?_⟩
  intro job h
  cases h

theorem witness_RestartIsAcceptedOnlyWhenQuiet :
    (∀ h : HeadIx, busy.heads[h.val].state = .idle ∨ busy.heads[h.val].state = .halted)
    ∧ (∀ r : RecIx, busy.recs[r.val].state ≠ .opening ∧ busy.recs[r.val].state ≠ .flowing ∧ busy.recs[r.val].state ≠ .closing)
    ∧ busy.car.state = .idle ∧ (working .pressing plain).heads[1].state = .pressing
    ∧ (let u := { busy with restart := .replyWaiting, link := { busy.link with tx := some ⟨0x83, 9, [0, 0]⟩ } }
       u.running = true ∧ u.restart = .replyWaiting ∧ u.link.tx = some ⟨0x83, 9, [0, 0]⟩ ∧ u.store.save = .none)
    ∧ (let u := saving.modLink fun k => { k with notices := [.stopChange true] }
       u.store.save = .writing ⟨.settingsSave, busy.store.workConfig, busy.store.workCommitted, 0⟩ ∧ u.link.replies = []
         ∧ u.link.notices = .stopChange true :: []) := by decide +kernel

theorem test_restart_reply_ends_and_nothing_more_is_sent :
    let s := { busy with restart := .replyWaiting, link := { busy.link with tx := some ⟨0x83, 9, [0, 0]⟩, notices := [.stopChange true] } }
    let t := after .frameSent s
    t.link.tx = none ∧ t.link.notices = [.stopChange true] ∧ (after (.stopAssert []) t).link.tx = none
      ∧ (after .frameSent { s with store := saving.store }).link.tx = some ⟨0xCA, 0x80, [1]⟩ := by decide +kernel

theorem witness_StopHaltsTheWholePart :
    up.stop = false ∧ up.running = true ∧ State.reset.running = false ∧ seven.stop = true ∧ seven.running = true
    ∧ seven.link.tx.isSome = true ∧ seven.link.notices.length + 10 ≤ 32 ∧ (working .pressing plain).heads[1].state ≠ .halted
    ∧ 32 ≤ (seven.modLink fun k => { k with notices := List.replicate 32 (.stopChange true) }).link.notices.length
    ∧ seven.lines[1].state = .ready ∧ (∀ c : ClassIx, 0 < seven.lines[1].config.weights[c.val]) := by decide +kernel

theorem witness_StopHaltsTheWholePart_places : { seven with free := seven.free.drop 7 }.PoolWellKept := by
  unfold State.PoolWellKept State.Placed
  decide +kernel

/-- The BODY of a STEP-LOAD of the step `t` to head `h`, and what it is read as. -/
def stepBody (h : Nat) (platen : Nat) (t : Step) : List Byte :=
  p1 h ++ p2 t.label ++ p1 platen ++ p1 (bit t.chain) ++ p4 t.timeLimit ++ p2 t.rampTime ++ many p2 t.targets.toList
    ++ p1 (optCode (t.line.map (·.val))) ++ p1 t.purpose ++ p2 t.rate ++ p2 t.lead ++ p1 (optCode (t.watch.map (·.val)))
    ++ p2 t.overpolish

/-- A step on line 0 for P1 at the highest rate. -/
def lined : Step := { plain with line := some 0, rate := 600 }

theorem witness_StepLoadKeepsTheRecordInASlot :
    (parseStep (stepBody 1 1 lined)).map (fun q => (q.head, q.platen, q.step 0)) = some (1, 1, lined)
    ∧ (parseStep (stepBody 1 1 lined)).map (fun q => decide (1 ≤ q.timeLimit ∧ q.timeLimit ≤ 600000 ∧ q.rampTime ≤ 60000 ∧ q.line < 4
        ∧ q.purpose ≤ 7 ∧ 1 ≤ q.rate ∧ q.rate ≤ 600 ∧ q.lead ≤ 30000 ∧ q.watch = 255 ∧ q.flags < 32 ∧ q.flags / 4 % 2 ≠ 1)) = some true
    ∧ (parseStep (stepBody 1 4 lined)).map StepBody.platen = some 4
    ∧ (parseStep (stepBody 4 1 lined)).map StepBody.head = some 4
    ∧ (parseStep (stepBody 1 1 { lined with rate := 601 })).map (fun q => decide (q.rate ≤ 600)) = some false
    ∧ up.lines[0].config.membership[0] = true ∧ lined.rate ≤ up.lines[0].config.capacity
    ∧ up.platens[0].config.flowLimit < lined.rate
    ∧ (let s := up.modPlaten 0 fun c => { c with config := { c.config with flowLimit := 600 } }
       lined.rate ≤ s.platens[0].config.flowLimit)
    ∧ (let s := up.modLine 0 fun c => { c with config := { c.config with membership := #v[false, true, true] } }
       s.lines[0].config.membership[0] = false)
    ∧ (let s := up.modHead 1 fun d => { d with steps := [plain, plain] }
       2 ≤ s.heads[1].steps.length)
    ∧ (let s := up.modHead 1 fun d => { d with state := .starved, held := some plain }
       s.heads[1].steps = [] ∧ s.heads[1].state = .starved ∧ s.heads[1].held = some plain) := by decide +kernel

theorem witness_StepBodyCarriesEveryField :
    let t : Step := { plain with label := 65535, timeLimit := 4294967295, rampTime := 65535, targets := #v[65535, 0, 0, 0, 65535],
                                 purpose := 255, rate := 65535, lead := 65535, overpolish := 65535 }
    t.label < 65536 ∧ t.timeLimit < 4294967296 ∧ t.rampTime < 65536 ∧ (∀ z : ZoneIx, t.targets[z.val] < 65536) ∧ t.purpose < 256
      ∧ t.rate < 65536 ∧ t.lead < 65536 ∧ t.overpolish < 65536 := by decide +kernel

/-- H1 at rest with the step `t` loaded, P1 in mode `m`. -/
def rested (m : Mode) (t : Step) : State :=
  (busy.modPlaten 0 fun c => { c with mode := m }).modHead 1 fun d => { d with steps := [t] }

theorem witness_HeadStartTakesTheOldestStep_checks :
    4 ≤ (4 : Byte).toNat ∧ { rested .wet plain with stop := true }.stop = true ∧ busy.heads[1].steps = []
    ∧ (let s := (rested .wet plain).modCar fun c => { c with state := .pending }
       s.stop = false ∧ s.heads[1].state = .idle ∧ s.heads[1].steps ≠ [] ∧ s.car.state ≠ .idle)
    ∧ (let s := rested .wet plain
       s.stop = false ∧ s.heads[1].state = .idle ∧ s.heads[1].steps = plain :: [] ∧ s.car.state = .idle ∧ s.station 1 = 0 + 1
         ∧ s.platens[0].mode ≠ .polishing)
    ∧ (rested .wet { plain with platen := 1 }).station 1 ≠ 1 + 1 ∧ { plain with awaitIndex := true }.awaitIndex = true := by
  decide +kernel

theorem witness_HeadStartTakesTheOldestStep_wellKept : (rested .wet { plain with platen := 1 }).heads[1].WellKept := by
  unfold Head.WellKept
  decide +kernel

theorem witness_HeadStartTakesTheOldestStep_work :
    let s := rested .polishing plain
    let t := { plain with line := some 0, rate := 500 }
    let u := (rested .polishing t).modLine 0 fun c => { c with state := .ready }
    s.isOpen = true ∧ s.stop = false ∧ s.heads[1].state = .idle ∧ s.heads[1].steps = plain :: [] ∧ s.car.state = .idle
      ∧ plain.awaitIndex = false ∧ s.station 1 = 0 + 1 ∧ s.platens[0].mode = .polishing ∧ s.barrier 0 = [] ∧ plain.line = none
      ∧ plain.watch = none ∧ u.heads[1].steps = t :: [] ∧ t.line = some 0 ∧ u.idleRecord 1 = some 2
      ∧ u.lineChecks 0 0 500 = none := by decide +kernel

theorem witness_HeadHaltStopsAndResumeReturns :
    let s := working .pressing plain
    let t := s.modHead 1 fun d => { d with state := .halted, current := false, haltReason := some .host }
    s.heads[1].state ≠ .halted ∧ s.link.tx.isSome = true ∧ s.link.notices.length + 2 ≤ 32 ∧ t.heads[1].state = .halted
      ∧ t.stop = false ∧ t.car.state ≠ .pending
      ∧ (let u := t.modCar fun c => { c with state := .pending }
         u.car.state = .pending
           ∧ (u.modHead 1 fun d => { d with state := .idle, haltReason := none, snapshot := [] }).allReady = true) := by
  decide +kernel

theorem witness_wellKept_pressing : (working .pressing plain).heads[1].WellKept ∧ (working .wetting plain).heads[1].WellKept
    ∧ (working .overpolish plain).heads[1].WellKept := by
  unfold Head.WellKept
  decide +kernel

/-- H1 in STARVED, holding `plain`. -/
def starving : State := polishing.modHead 1 fun d => { d with state := .starved, held := some plain }

/-- H1 in RELEASING, `plain` current. -/
def leaving : State := (working .releasing plain).modHead 1 fun d => { d with indexMark := true }

theorem witness_wellKept_starved : starving.heads[1].WellKept ∧ leaving.heads[1].WellKept := by
  unfold Head.WellKept
  decide +kernel

theorem witness_HeadFlushEmptiesTheSlots :
    let s := working .wetting plain
    s.isOpen = true ∧ s.heads[1].state = .wetting ∧ s.link.tx.isSome = true ∧ s.link.notices.length < 32
      ∧ starving.heads[1].state = .starved := by decide +kernel

/-- A carousel in PENDING whose one head not index-ready is H1: a halt, a flush (HeadFlushEmptiesTheSlots) and the end of a release
(StepTimersEndTheirStates) make it ready. -/
theorem witness_HeadHaltStopsAndResumeReturns_pending :
    (let s := (working .pressing plain).modCar fun c => { c with state := .pending }
     s.car.state = .pending ∧ (∀ h : HeadIx, (after (.headHalt 3 [1]) s).heads[h.val].indexReady = true)
       ∧ s.heads[1].indexReady = false)
    ∧ (let s := (working .armed plain).modCar fun c => { c with state := .pending }
       s.heads[1].state = .armed ∧ ∀ h : HeadIx, (after (.headFlush 3 [1]) s).heads[h.val].indexReady = true)
    ∧ (let s := leaving.modCar fun c => { c with state := .pending }
       s.car.state = .pending ∧ ∀ h : HeadIx, (after (.releaseTimeExpiry 1) s).heads[h.val].indexReady = true) := by decide +kernel

theorem witness_wellKept_armed : (working .armed plain).heads[1].WellKept := by
  unfold Head.WellKept
  decide +kernel

theorem witness_HeadSettingsReplaceTheirFields :
    4 ≤ (4 : Byte).toNat ∧ 2 ≤ (2 : Byte).toNat ∧ busy.heads[1].atRest = true ∧ (working .pressing plain).heads[1].atRest = false
    ∧ (parseTrim (p1 3 ++ many s2 [1000, -1000, 1001, 0, 0])).map TrimBody.head = some 3
    ∧ (parseTrim (p1 4 ++ many s2 [0, 0, 0, 0, 0])).map TrimBody.head = some 4
    ∧ (parseLimits limitsBody).map (fun q => (q.1, decide (q.2.ringMargin ≤ 3000 ∧ 50 ≤ q.2.deviationTolerance
        ∧ q.2.deviationTolerance ≤ 2000 ∧ 100 ≤ q.2.deviationTime ∧ q.2.deviationTime ≤ 5000 ∧ q.2.settleTime ≤ 2000
        ∧ q.2.starveLimit ≤ 10000 ∧ 100 ≤ q.2.releaseTime ∧ q.2.releaseTime ≤ 5000 ∧ q.2.captureBand ≤ 500 ∧ q.2.motionBand ≤ 200
        ∧ q.2.apertureBand ≤ 2000))) = some (1, true)
    ∧ (parseLimits (p1 1 ++ many p2 [3001, 300, 500, 300, 2000, 500, 50, 10, 200])).map (fun q => decide (q.2.ringMargin ≤ 3000))
        = some false := by
  decide +kernel

/-- H1 in WETTING on a step that names W0, which is defined and free. -/
def watchful : State :=
  (working .wetting { plain with watch := some 0, line := some 0, lead := 500 }).modWatch 0 fun k => { k with state := .disarmed }

theorem witness_LeadTimeExpiryEntersPressing :
    let s := working .wetting plain
    s.running = true ∧ s.heads[1].state = .wetting ∧ s.heads[1].step = some plain ∧ plain.watch = none
    ∧ (let s := working .wetting { plain with condInsitu := true }
       s.heads[1].step = some { plain with condInsitu := true } ∧ s.conds[0].arm = .stowed ∧ s.conds[0].unheld = true
         ∧ (after (.leadTimeExpiry 1) s).heads[1].state = .pressing)
    ∧ watchful.heads[1].step = some { plain with watch := some 0, line := some 0, lead := 500 }
    ∧ watchful.watches[0].state ≠ .undefined ∧ watchful.watches[0].bound = none
    ∧ (watchful.modWatch 0 fun k => { k with state := .undefined }).watches[0].state = .undefined
    ∧ (watchful.modWatch 0 fun k => { k with bound := some 2 }).watches[0].bound = some 2 := by decide +kernel

theorem witness_StepTimersEndTheirStates :
    let s := working .pressing plain
    s.running = true ∧ s.heads[1].state = .pressing ∧ s.heads[1].step = some plain ∧ plain.watch = none
    ∧ s.link.tx.isSome = true ∧ s.link.notices.length < 32 ∧ s.heads[1].steps.tail = [] ∧ plain.chain = false
    ∧ (working .overpolish plain).heads[1].state = .overpolish
    ∧ (let t := { plain with watch := some 0, needEndpoint := true }
       (working .pressing t).heads[1].step = some t ∧ t.watch.isSome = true ∧ t.needEndpoint = true)
    ∧ starving.heads[1].state = .starved ∧ starving.heads[1].held = some plain
    ∧ leaving.heads[1].state = .releasing ∧ leaving.heads[1].current = true ∧ leaving.heads[1].steps = plain :: []
    ∧ leaving.heads[1].indexMark = true
    ∧ (leaving.modHead 1 fun d => { d with current := false }).heads[1].current = false := by decide +kernel

theorem witness_RegulatorCodeFollowsTheCalibration : (ZoneCal.mk 0 205 6000 3890).pLo < (ZoneCal.mk 0 205 6000 3890).pHi := by decide

theorem witness_InputScalingIsExactAndClamped : (InputCal.mk 1200 0 60000 8000).rawLo < (InputCal.mk 1200 0 60000 8000).rawHi := by
  decide

theorem witness_RampAndRingMarginKeepTheirBounds :
    (0 : Int) ≤ 3000 ∧ (3000 : Int) ≤ 3000 ∧ (8000 : Int) ≤ 8000 ∧ (6000 : Int) ≤ 6000 ∧ (6000 : Int) + 2000 ≤ 8000
      ∧ (7999 : Int) < 6000 + 2000 ∧ (8000 : Int) < 6000 + 2001 := by decide

theorem witness_UpdateTimerComputesTheCommands :
    let s := (working .pressing plain).modHead 1 fun d => { d with supervision := .ramping }
    s.running = true ∧ s.heads[1].updateDue = some 10 ∧ s.heads[1].workStep = some plain
    ∧ s.heads[1].limits.ringMargin ≤ 3000 ∧ s.heads[1].state.isPressing = true ∧ s.heads[1].supervision = .ramping
    ∧ s.heads[1].step = some plain ∧ s.heads[1].limits.settleTime ≠ 0
    ∧ (starving.modHead 1 fun d => { d with updateDue := some 10 }).heads[1].workStep = some plain
    ∧ leaving.heads[1].updateDue = some 10 ∧ leaving.heads[1].state = .releasing ∧ busy.heads[1].updateDue = none
    ∧ (s.modHead 1 fun d => { d with limits := { d.limits with settleTime := 0 } }).heads[1].limits.settleTime = 0
    ∧ (let u := (s.modHead 1 fun d => { d with supervision := .testing }).modHead 1 fun d => d.modZone 2 fun c => { c with trim := 5 }
       u.heads[1].zones[2].trim ≠ u.heads[1].zones[2].lastTrim ∧ u.heads[1].supervision ≠ .ramping)
    ∧ (s.modHead 1 fun d => { d with supervision := .settling 40 }).heads[1].supervision = .settling 40 := by decide +kernel

theorem witness_WindowEndCorrectsOrFlagsTheZone :
    let c : Zone := { Zone.powerOn (ZoneCal.default 4) with window := some ⟨0, 50⟩ }
    let s := busy.modHead 1 fun d => d.modZone 4 fun _ => c
    let m := s.heads[1].limits
    s.running = true ∧ s.heads[1].zones[4].window = some ⟨0, 50⟩ ∧ (50 : Int).natAbs ≤ m.captureBand
      ∧ ((50 : Int) - 40).natAbs ≤ m.motionBand ∧ ¬ (51 : Int).natAbs ≤ m.captureBand
      ∧ (parseZoneCal calBody).map (fun q => (q.head, q.zone, q.cal)) = some (1, 4, ⟨0, 205, 6000, 3890⟩)
      ∧ (parseZoneCal (p1 4 ++ p1 5 ++ p2 0 ++ p2 0 ++ p2 8000 ++ p2 4095)).map (fun q => (q.head, q.zone)) = some (4, 5)
      ∧ (parseZoneCal (p1 0 ++ p1 0 ++ p2 7 ++ p2 0 ++ p2 7 ++ p2 4095)).map (fun q => decide (q.cal.pLo < q.cal.pHi)) = some false := by
  decide +kernel

theorem witness_CommandRangeIsKept :
    let s := { up with pending := [.headUpdateTimer 1] }
    s.CommandsInRange ∧ step s = .next (after (.headUpdateTimer 1) { up with pending := [] }) := by
  refine ⟨?_, step_after _ _ _⟩
  unfold State.CommandsInRange
  decide +kernel

theorem witness_LawOfMarginIsKept :
    let s := { up with pending := [.headUpdateTimer 1] }
    s.MarginLaw ∧ s.HeadsWellKept ∧ step s = .next (after (.headUpdateTimer 1) { up with pending := [] }) := by
  refine ⟨⟨by decide +kernel, ?_, ?_, ?_⟩, by unfold State.HeadsWellKept Head.WellKept; decide +kernel, step_after _ _ _⟩
  · unfold ConfigRows.MarginsInRange; decide +kernel
  · unfold ConfigRows.MarginsInRange; decide +kernel
  · intro job h; cases h

theorem witness_PlatenRequestsActAtOnce :
    let s := working .pressing plain
    (4 : Byte).toNat > 3 ∧ (5 : Byte).toNat > 4 ∧ s.platens[0].mode = .polishing ∧ Mode.blocked ≠ s.platens[0].mode
    ∧ Mode.blocked.code < s.platens[0].mode.code ∧ s.heads[1].demotedWith 0 = true ∧ Mode.blocked.code < 3
    ∧ up.platens[0].mode.code < Mode.wet.code ∧ Mode.wet ≠ .polishing ∧ s.link.tx.isSome = true
    ∧ s.heads[0].demotedWith 0 = false ∧ s.heads[0].dose = none
    ∧ (parsePlatenConfig platenBody).map (fun q => (q.platen, q.flowLimit, decide (q.ceiling ≤ 3 ∧ ∀ i : Fin 8, q.classes[i.val] ≤ 3)))
        = some (1, 400, true)
    ∧ (parsePlatenConfig (p1 4 ++ p2 49 ++ p1 3 ++ many p1 [0, 0, 1, 1, 2, 2, 3, 3])).map (fun q => (q.platen, q.flowLimit))
        = some (4, 49)
    ∧ (up.modPlaten 0 fun c => { c with reservation := 401 }).platens[0].reservation = 401 := by decide +kernel

/-- The BODY of a DOSE-SUBMIT for P1 on L0: 100 mL/min for 1000 ms, with a cap. -/
def doseBody (platen line cap : Nat) : List Byte :=
  p2 77 ++ p1 platen ++ p1 line ++ p1 2 ++ p1 0 ++ p2 0 ++ p2 1 ++ p4 cap ++ p2 100 ++ p4 1000

theorem witness_DoseSubmitQueuesTheOldestFreeRecord :
    (parseDose (doseBody 1 0 16)).map (fun q => (q.platen, q.line, decide (q.purpose ≤ 7 ∧ q.flags ≤ 1 ∧ q.policy ≤ 2
        ∧ 1 ≤ q.segments.length ∧ q.segments.length ≤ 4 ∧ (∀ g ∈ q.segments, g.1 ≤ 600 ∧ 100 ≤ g.2 ∧ g.2 ≤ 600000) ∧ q.cap ≤ 100000),
        (q.segments.map fun g => g.1 * g.2).sum, q.cap * 6000)) = some (1, 0, true, 100000, 96000)
    ∧ (parseDose (doseBody 1 0 17)).map (fun q => decide (q.sum < q.cap * 6000)) = some true
    ∧ (parseDose (doseBody 4 4 0)).map (fun q => (q.platen, q.line)) = some (4, 4)
    ∧ up.lines[0].state = .offline
    ∧ (let s := up.modLine 0 fun c => { c with state := .ready }
       s.lines[0].state = .ready ∧ s.lines[0].config.membership[0] = true ∧ 100 ≤ s.lines[0].config.capacity
         ∧ 100 ≤ s.platens[0].config.flowLimit ∧ s.free.head? = some 8 ∧ { s with free := [] }.free = []
         ∧ (s.modLine 0 fun c => { c with config := { c.config with capacity := 99 } }).lines[0].config.capacity < 100
         ∧ (s.modLine 0 fun c => { c with config := { c.config with membership := #v[false, true, true] } }).lines[0].config.membership[0]
            = false) := by decide +kernel

/-- Record 12 in state `d` on L2, in the place that state names. -/
def placed (d : DoseState) (policy : Policy) : State :=
  let s := busy.modRec 12 fun r => { r with state := d, platen := some 0, line := 2, policy := policy, segments := [⟨200, some 1500⟩], peak := 200 }
  let s := if d.admitted then (s.modLine 2 fun c => { c with admitted := [12], reservation := 200 }).modPlaten 0 fun c =>
      { c with reservation := 200 }
    else s.modLine 2 fun c => { c with queues := if d = .queued then c.queues.set 0 [12] else c.queues }
  { s.modLine 2 fun c => { c with state := .ready } with free := s.free.erase 12 }

theorem witness_poolWellKept_queued : (placed .queued .hold).PoolWellKept := by
  unfold State.PoolWellKept State.Placed
  decide +kernel

theorem witness_poolWellKept_closing : (placed .closing .notify).PoolWellKept := by
  unfold State.PoolWellKept State.Placed
  decide +kernel

/-- H1 in ARMED on the step `t` for P1, which is in WET. -/
def armed (t : Step) : State :=
  (busy.modPlaten 0 fun c => { c with mode := .wet }).modHead 1 fun d => { d with state := .armed, steps := [t], current := true }

/-- The step `lined` at a rate within the flow limit of every platen. -/
def slow : Step := { lined with rate := 100 }

/-- A dose that a demotion of P1 to BLOCKED closes, and heads that a promotion to POLISHING takes to work or halts. -/
theorem witness_PlatenRequestsActAtOnce_doses : (placed .flowing .notify).PoolWellKept := by
  unfold State.PoolWellKept State.Placed
  decide +kernel

theorem witness_PlatenRequestsActAtOnce_armed : (armed plain).PoolWellKept := by
  unfold State.PoolWellKept State.Placed
  decide +kernel

theorem witness_PlatenRequestsActAtOnce_lined : (armed slow).PoolWellKept := by
  unfold State.PoolWellKept State.Placed
  decide +kernel

theorem witness_PlatenRequestsActAtOnce_promotion :
    (let s := (placed .flowing .notify).modPlaten 0 fun c => { c with mode := .polishing }
     s.recs[12].state.live = true ∧ s.recs[12].platen = some 0 ∧ s.recs[12].service = false ∧ Mode.blocked.code = 1
       ∧ s.platens[0].mode = .polishing)
    ∧ (armed plain).heads[1].state = .armed ∧ (armed plain).heads[1].indexMark = false ∧ (armed plain).heads[1].snapshot = []
    ∧ (armed plain).heads[1].step = some plain ∧ plain.platen = 0 ∧ plain.line = none ∧ plain.watch = none
    ∧ (armed slow).heads[1].step = some slow ∧ slow.line = some 0 ∧ (armed slow).idleRecord 1 = some 2
    ∧ (armed slow).lineChecks 0 0 100 ≠ none
    ∧ ((armed slow).modLine 0 fun c => { c with state := .ready }).lineChecks 0 0 100 = none
    ∧ (((armed slow).modRec 2 fun d => { d with state := .closing }).modRec 3 fun d => { d with state := .closing }).idleRecord 1 = none
    := by decide +kernel

/-- A queued dose that a promotion of its platen to WET lets its line admit. -/
theorem witness_PlatenRequestsActAtOnce_round :
    let s := placed .queued .hold
    s.stop = false ∧ s.lines[2].state = .ready ∧ (∀ c : ClassIx, 0 < s.lines[2].config.weights[c.val])
      ∧ s.platens[0].mode.code < Mode.wet.code ∧ s.lines[2].queues[0] = [12] ∧ s.recs[12].platen = some 0 := by decide +kernel

theorem test_promotion_takes_an_armed_head_to_work :
    (after (.platenMode 1 [1, 4]) (armed plain)).heads[1].state = .pressing
    ∧ (after (.platenMode 1 [1, 4]) (armed slow)).heads[1].haltReason = some .lineOffline
    ∧ (let t := after (.platenMode 1 [1, 4]) ((armed slow).modLine 0 fun c => { c with state := .ready })
       t.heads[1].state = .slurryWait ∧ t.recs[2].state = .opening ∧ t.lines[0].stoppedAt = none) := by decide +kernel

theorem witness_DoseSubmitQueuesTheOldestFreeRecord_places : (up.modLine 0 fun c => { c with state := .ready }).PoolWellKept := by
  unfold State.PoolWellKept State.Placed
  decide +kernel

theorem witness_DoseCancelAndReleaseEndADose :
    (64 : Byte).toNat > 63 ∧ (placed .held .hold).recs[12].state = .held ∧ busy.recs[63].state ≠ .held
    ∧ busy.recs[8].state = .free ∧ (placed .opening .notify).recs[12].state = .opening
    ∧ (placed .queued .hold).recs[12].state = .queued ∧ (placed .queued .hold).recs[12].policy = .hold
    ∧ (placed .queued .silent).recs[12].policy ≠ .hold := by decide +kernel

theorem witness_FlowingDoseIsMeteredSegmentBySegment :
    (placed .opening .notify).recs[12].state = .opening ∧ capped.recs[12].state = .flowing
    ∧ capped.recs[12].currentSegment = some ⟨200, some 1500⟩ ∧ capped.recs[12].segTime < 1500 ∧ capped.recs[12].acc < 250 * 6000
    ∧ (let s := capped.modRec 12 fun d => { d with cap := none }
       s.recs[12].cap = none ∧ s.recs[12].segment < s.recs[12].segments.length
         ∧ (s.modRec 12 fun d => { d with segment := 2 }).recs[12].segments.length ≤ 2)
    ∧ (let t := { lined with lead := 500 }
       let s := ((working .slurryWait t).modHead 1 fun d => { d with dose := some 2 }).modRec 2 fun d => { d with state := .opening }
       s.recs[2].state = .opening ∧ (2 : RecIx).val / 2 = (1 : HeadIx).val ∧ s.heads[1].state = .slurryWait ∧ s.heads[1].dose = some 2
         ∧ s.heads[1].step = some t ∧ t.line ≠ none ∧ t.lead ≠ 0) := by decide +kernel

theorem witness_CapAndClosingEndTheDose :
    let s := capped.modRec 12 fun d => { d with segment := 2, acc := 300000 }
    s.running = true ∧ s.recs[12].state = .flowing ∧ s.recs[12].currentSegment = some ⟨350, some 4000⟩ ∧ s.recs[12].cap = some 250
      ∧ 250 * 6000 ≤ s.recs[12].acc + 3429 * 350 ∧ (∀ j, j < 3429 → s.recs[12].acc + j * 350 < 250 * 6000)
      ∧ 3429 ≤ 4000 - s.recs[12].segTime ∧ s.recs[12].acc + 3429 * 350 ≤ 281474976710655 ∧ s.recs[12].acc ≤ 250 * 6000
      ∧ (placed .closing .notify).recs[12].state = .closing ∧ (placed .closing .notify).recs[12].policy = .notify
      ∧ (∀ k : HeadIx, busy.heads[k.val].state ≠ .armed)
      ∧ (busy.modRec 2 fun d => { d with state := .closing }).recs[2].state = .closing := by
  have e : (capped.modRec 12 fun d => { d with segment := 2, acc := 300000 }).recs[12].acc = 300000 := by decide +kernel
  refine ⟨rfl, by decide +kernel, by decide +kernel, by decide +kernel, by decide +kernel, ?_, by decide +kernel,
    by decide +kernel, by decide +kernel, by decide +kernel, by decide +kernel, by decide +kernel, by decide +kernel⟩
  intro j hj
  rw [e]
  omega

/-- The last dose of a line in TEARDOWN. -/
def torn : State := ((placed .closing .notify).modLine 2 fun c => { c with state := .teardown }).modRec 12 fun d =>
  { d with reason := some .tornDown }

theorem witness_CapAndClosingEndTheDose_teardown :
    torn.running = true ∧ torn.recs[12].state = .closing ∧ torn.recs[12].line = 2 ∧ torn.lines[2].state = .teardown
    ∧ torn.lines[2].admitted = [12] ∧ torn.link.tx.isSome = true ∧ torn.link.notices.length + 2 ≤ 32
    ∧ (∀ k : HeadIx, torn.heads[k.val].state ≠ .armed ∧ torn.heads[k.val].state ≠ .slurryWait)
    ∧ (placed .closing .notify).stop = false ∧ (placed .closing .notify).lines[2].state = .ready
    ∧ (∀ c : ClassIx, 0 < (placed .closing .notify).lines[2].config.weights[c.val]) := by decide +kernel

theorem witness_CapAndClosingEndTheDose_places : torn.PoolWellKept := by
  unfold State.PoolWellKept State.Placed
  decide +kernel

theorem witness_DoseLawsAreKept :
    let s := { placed .closing .notify with pending := [.doseClosingEnd 12] }
    s.PoolWellKept ∧ s.WithinBudgets ∧ s.LiveLaw
      ∧ step s = .next (after (.doseClosingEnd 12) { s with pending := [] }) := by
  refine ⟨?_, ?_, ?_, step_after _ _ _⟩
  · unfold State.PoolWellKept State.Placed; decide +kernel
  · unfold State.WithinBudgets; decide +kernel
  · unfold State.LiveLaw; decide +kernel

theorem witness_LineRequestsActByTheLineState :
    let s := busy.modLine 0 fun c => { c with state := .ready }
    s.lines[0].state = .ready ∧ busy.lines[0].state = .offline ∧ s.lines[0].admitted = [] ∧ s.stop = false
    ∧ (4 : Byte).toNat > 3
    ∧ (parseLineConfig lineBody).map (fun q => (q.line, q.capacity, decide (q.scheme = 1 ∧ (∀ k : ClassIx, 1 ≤ q.weights[k.val]
        ∧ q.weights[k.val] ≤ 127) ∧ q.membership = 7 ∧ q.primeTime = 3000 ∧ q.tolerance = 20 ∧ q.faultTime = 2000)))
        = some (0, 500, true)
    ∧ (parseLineConfig (p1 0 ++ p2 49 ++ p1 1 ++ many p1 [6, 3, 2, 1] ++ p1 7 ++ p2 3000 ++ p1 20 ++ p2 2000)).map
        (fun q => decide (50 ≤ q.capacity)) = some false
    ∧ (s.modLine 0 fun c => { c with reservation := 501 }).lines[0].reservation = 501
    ∧ (placed .queued .hold).recs[12].line = 2 ∧ (placed .queued .hold).recs[12].platen = some 0
    ∧ (placed .queued .hold).recs[12].state = .queued ∧ (∀ r : RecIx, busy.recs[r.val].platen = none) ∧ busy.lines[0].admitted = []
    ∧ (let t := busy.modLine 0 fun c => { c with state := .priming, primeDue := some 3000 }
       t.lines[0].state = .priming ∧ t.lines[0].primeDue = some 3000) := by decide +kernel

theorem witness_LineTeardown :
    let s := placed .closing .notify
    s.lines[2].state ≠ .offline ∧ s.lines[2].state ≠ .teardown ∧ (12 : RecIx) ∈ s.lines[2].admitted
      ∧ (placed .queued .hold).recs[12].state = .queued ∧ (placed .queued .hold).recs[12].line = 2
      ∧ (placed .queued .hold).lines[2].admitted = [] ∧ (placed .queued .hold).link.tx.isSome = true
      ∧ (placed .queued .hold).link.notices.length + 1 + 9 ≤ 32 := by decide +kernel

/-- H1 pressing with its dose FLOWING on L0, whose flow has been wrong for the fault time. -/
def dosing : State :=
  ((((working .pressing slow).modHead 1 fun d => { d with dose := some 2 }).modRec 2 fun r =>
      { r with state := .flowing, platen := some 0, line := 0, segments := [⟨100, none⟩], segment := 1, peak := 100 }).modLine 0 fun c =>
      { c with state := .ready, admitted := [2], reservation := 100, faultSince := some 0 }).modPlaten 0 fun c =>
      { c with reservation := 100 }

theorem witness_LineRequestsActByTheLineState_places : dosing.PoolWellKept := by
  unfold State.PoolWellKept State.Placed
  decide +kernel

theorem witness_LineRequestsActByTheLineState_doses : dosing.DosesOfWork ∧ (placed .queued .hold).DosesOfWork
    ∧ (placed .closing .notify).DosesOfWork := by
  unfold State.DosesOfWork
  decide +kernel

/-- A head that a LINE-TEARDOWN, or a LINE-FAULT (SamplesFeedSupervisionFlowCheckAndDwell), halts. -/
theorem witness_LineRequestsActByTheLineState_dosing :
    dosing.lines[0].state = .ready ∧ dosing.heads[1].dose = some 2 ∧ 2 ∈ dosing.lines[0].admitted ∧ dosing.recs[2].state = .flowing
    ∧ dosing.recs[2].state.live = true ∧ dosing.heads[1].state.works = true ∧ dosing.checkRuns 0 = true ∧ dosing.pumpRate 0 = 100
    ∧ dosing.lines[0].faultSince = some 0 ∧ (∀ w : WatchIx, dosing.watches[w.val].defn.source ≠ .flow 0)
    ∧ (let s := { dosing with now := 2000 }
       s.lines[0].config.faultTime ≤ max s.now (s.sampleDue (.flow 0)) - 0 ∧ s.link.tx.isSome = true ∧ s.link.notices.length + 9 ≤ 32)
    := by decide +kernel

theorem witness_StrictLineChoosesTheHighestClass :
    let s := { seven.modLine 1 fun c => { c with config := { c.config with scheme := .strict } } with stop := false }
    s.lines[1].config.scheme = .strict ∧ (s.choose 1).2 = some (3, 8) ∧ s.candidate 1 3 = some 8 ∧ s.admits 1 = true
      ∧ s.lines[1].stoppedAt = none ∧ s.recs[8].platen = some 0 ∧ s.fits 1 0 8 = true
      ∧ (s.modLine 1 fun c => { c with config := { c.config with capacity := 99 } }).fits 1 0 8 = false
      ∧ ((busy.modLine 1 fun c => { c with config := { c.config with scheme := .strict } }).choose 1).2 = none := by
  decide +kernel

/-- The line of 5.11 after STOP is released, before its attempt. -/
def ready511 : State := { seven with stop := false }

/-- A candidate in class 3 with a credit; the same class without credits, and no other class; a record that fits and one that does not; no
candidate at all; a line that may not admit. -/
theorem witness_AttemptAdmitsByClassCreditAndBudget :
    (∀ k : ClassIx, 0 < ready511.lines[1].config.weights[k.val]) ∧ ready511.lines[1].config.scheme = .weighted
    ∧ ready511.candidate 1 3 = some 8 ∧ 0 < ready511.lines[1].credits[3]
    ∧ (∀ k : ClassIx, (ready511.modLine 1 fun c => { c with credits := #v[0, 0, 0, 0] }).lines[1].credits[k.val] = 0)
    ∧ ready511.admits 1 = true ∧ seven.admits 1 = false ∧ (ready511.choose 1).2 = some (3, 8) ∧ ready511.recs[8].platen = some 0
    ∧ ready511.lines[1].reservation + 100 ≤ ready511.lines[1].config.capacity ∧ ready511.recs[8].peak = 100
    ∧ ready511.platens[0].reservation + 100 ≤ ready511.platens[0].config.flowLimit
    ∧ ¬ (450 + 100 ≤ (ready511.modPlaten 0 fun c => { c with reservation := 450 }).platens[0].config.flowLimit)
    ∧ (∀ k : ClassIx, busy.candidate 1 k = none) := by decide +kernel

theorem witness_CondStopRemovesTheHostHolder :
    let s := busy.modCond 0 fun c => { c with host := some (.sweeps 1000), arm := .lowering }
    s.conds[0].host ≠ none ∧ s.conds[0].head = none ∧ s.conds[0].arm = .lowering ∧ busy.conds[0].host = none
      ∧ (s.modCond 0 fun c => { c with head := some 1 }).conds[0].head ≠ none ∧ (0 : Byte).toNat = 0 ∧ (4 : Byte).toNat > 3 := by
  decide +kernel

theorem witness_CondAndWearRequestsMakeTheirChecks :
    (parseProfile profileBody).map (fun q => (q.1, q.2.baseDwell, q.2.refTorque, q.2.downforce)) = some (1, 300, 450, 2000)
    ∧ (parseProfile (p1 4 ++ p2 49 ++ p2 450 ++ p2 2000)).map (fun q => (q.1, decide (50 ≤ q.2.baseDwell))) = some (4, false)
    ∧ parseRun (p1 1 ++ p2 1000) = some (1, 1000) ∧ parseRun (p1 4 ++ p2 1001) = some (4, 1001)
    ∧ busy.stop = false ∧ polishing.platens[0].mode = .polishing ∧ busy.platens[0].mode = .offline ∧ polishing.car.state = .idle
    ∧ polishing.conds[0].arm = .stowed ∧ polishing.conds[0].unheld = true
    ∧ (polishing.modCond 0 fun c => { c with arm := .raising }).conds[0].arm ≠ .stowed
    ∧ (∀ h : HeadIx, busy.heads[h.val].pressesOn 0 = false) ∧ (working .pressing plain).heads[1].pressesOn 0 = true
    ∧ (parseWearSet wearBody).map (fun q => (q.platen, q.segment, q.valid, q.override, q.factor)) = some (1, 9, 1, 1, 512)
    ∧ (parseWearSet (p1 0 ++ p1 10 ++ p1 2 ++ p1 2 ++ p2 0)).map (fun q => (q.platen, q.segment, q.valid, q.override))
        = some (0, 10, 2, 2) := by decide +kernel

theorem witness_WearLookupFollowsItsPrecedence :
    (StaticEntry.mk true true 300).override = true ∧ (LearnedEntry.mk true 383 (some 0)).valid = true ∧ 599999 < 0 + 600000
      ∧ ¬ 600000 < 0 + 600000 ∧ (LearnedEntry.mk false 0 none).valid = false := by decide

theorem witness_LearnedFactorIsTheClampedQuotient :
    let s := busy.modWear 0 fun m => m.modLearned 4 fun _ => ⟨true, 383, some 0⟩
    (0 : Nat) < 1 ∧ (s.lookup 0 4).2 = .learned := by decide +kernel

/-- The conditioner of P1 in a dwell on S9 outward, with one torque sample. -/
def sweeping : State := busy.modCond 0 fun c =>
  { c with arm := .sweeping, host := some (.sweeps 1), segment := 9, dwell := 200, torqueSum := 400, torqueCount := 1 }

theorem witness_ArmTimersRunTheDwellPattern :
    (busy.modCond 0 fun c => { c with arm := .lowering }).conds[0].arm = .lowering ∧ busy.conds[0].arm ≠ .lowering
    ∧ sweeping.running = true ∧ sweeping.conds[0].arm = .sweeping ∧ sweeping.conds[0].torqueCount ≠ 0
    ∧ sweeping.conds[0].inward = false ∧ sweeping.conds[0].segment.val = 9 ∧ sweeping.platens[0].mode.learn = false
    ∧ (sweeping.modPlaten 0 fun c => { c with mode := .conditioning }).platens[0].mode.learn = true
    ∧ (sweeping.modCond 0 fun c => { c with segment := 8 }).conds[0].segment.val < 9
    ∧ (sweeping.modCond 0 fun c => { c with inward := true }).conds[0].inward = true
    ∧ (let s := sweeping.modCond 0 fun c => { c with inward := true, segment := 0 }
       s.conds[0].segment.val = 0 ∧ s.conds[0].host = some (.sweeps 1) ∧ s.conds[0].head = none
         ∧ (s.modCond 0 fun c => { c with host := some (.sweeps 2) }).conds[0].host = some (.sweeps (0 + 2))
         ∧ (s.modCond 0 fun c => { c with head := some 1 }).conds[0].head ≠ none
         ∧ (s.modCond 0 fun c => { c with host := some .continuous }).conds[0].host = some .continuous)
    ∧ (let s := busy.modCond 0 fun c => { c with arm := .raising }
       s.conds[0].arm = .raising ∧ s.conds[0].unheld = true
         ∧ (s.modCond 0 fun c => { c with host := some .continuous }).conds[0].unheld = false)
    ∧ (let s := working .pressing plain
       s.heads[1].pressesOn 0 = true ∧ ∀ k : HeadIx, k ≠ 1 → s.heads[k.val].pressesOn 0 = false)
    ∧ (busy.modWear 0 fun m => m.modLearned 9 fun _ => ⟨true, 1, some 5⟩).wears[0].learned[9].updated = some 5
    ∧ busy.wears[0].learned[9].updated = none := by decide +kernel

/-- The BODY of a WATCH-DEFINE of W`w` on a source. -/
def watchBody (w src : Nat) : List Byte :=
  p1 w ++ p1 src ++ p1 3 ++ s4 400 ++ p1 4 ++ p4 80 ++ p2 3000 ++ p2 30 ++ p1 0 ++ p1 0 ++ many p1 [0, 0, 0] ++ p1 src ++ p1 0

theorem witness_WatchRequestsActOnOneWatch :
    (16 : Byte).toNat > 15
    ∧ (parseWatch (watchBody 15 0x55)).map (fun q => (q.watch, decide (q.source = 0x55 ∧ q.relation ≤ 3 ∧ 1 ≤ q.count ∧ q.count ≤ 64
        ∧ q.window ≤ 2147483647 ∧ q.blank ≤ 60000 ∧ q.hold ≤ 10000 ∧ q.action ≤ 3 ∧ q.target ≤ 3 ∧ q.destType = 0 ∧ q.destNumber ≤ 7
        ∧ q.copy = 0x55 ∧ q.repeats ≤ 1))) = some (15, true)
    ∧ Source.id (.reflectance 0) = 0x55 ∧ (parseWatch (watchBody 16 1)).map (fun q => (q.watch, q.source)) = some (16, 1)
    ∧ parseExchange (p1 15 ++ s4 (-5)) = some (15, -5) ∧ parseExchange (p1 16 ++ s4 0) = some (16, 0)
    ∧ busy.watches[15].bound = none ∧ busy.watches[15].state = .undefined
    ∧ (let s := busy.modWatch 15 fun k => { k with state := .disarmed }
       s.watches[15].state = .disarmed ∧ s.watches[15].bound = none)
    ∧ (busy.modWatch 15 fun k => { k with state := .watching, bound := some 1 }).watches[15].bound ≠ none
    ∧ (busy.modWatch 15 fun k => { k with state := .blanking }).watches[15].state = .blanking := by decide +kernel

theorem witness_RelationsReadAverageAndCrossing :
    falling.defn.relation = .falls ∧ falling.state = .watching ∧ falling.history = [] ∧ falling.prevAvg = none ∧ falling.crossed = false
      ∧ 1 ≤ falling.defn.count
      ∧ { falling.defn with relation := .rises }.relation = .rises := by decide +kernel

theorem witness_WatchesHoldThenFire_evaluate :
    (let k := (sampled [620, 612, 598, 604, 420, 398]).1
     k.state = .watching ∧ k.holds ((k.filtered 380).sum.tdiv (k.filtered 380).length) = true ∧ k.defn.hold ≠ 0)
    ∧ (let k := (sampled [620, 612, 598, 604, 420, 398, 380]).1
       k.state = .holding ∧ k.holdStart = some 3065 ∧ k.holds ((k.filtered 376).sum.tdiv (k.filtered 376).length) = true
         ∧ k.holds ((k.filtered 450).sum.tdiv (k.filtered 450).length) = false)
    ∧ { falling with state := .fired }.state = .fired ∧ Watch.powerOn.state = .undefined := by decide +kernel

theorem witness_WatchesHoldThenFire_firing :
    latching.running = true ∧ latching.watches[0].defn.source = .latch 7
    ∧ (∀ k : WatchIx, k ≠ 0 → latching.watches[k.val].defn.source ≠ .latch 7) ∧ latching.watches[0].bound = none
    ∧ (latching.watches[0].evaluate (latching.sampleValue (.latch 7) 0) (max latching.now (latching.sampleDue (.latch 7)))).2 = true
    ∧ latching.watches[0].defn.action = .latch ∧ latching.watches[0].defn.dest = .latch 2 0
    ∧ latching.link.tx.isSome = true ∧ latching.link.notices.length < 32
    ∧ (latching.modWatch 0 fun k => { k with defn := { k.defn with action := .halt, target := 3 } }).heads[3].state ≠ .halted := by
  decide +kernel

/-- H1 in state `d` on the step `t`, W0 watching the latch 7 as in `latching`, with this action, target and bound head. -/
def firing (d : HeadState) (t : Step) (action : WatchAction) (target : HeadIx) (bound : Option HeadIx) : State :=
  { working d t with watches := (latching.modWatch 0 fun k =>
      { k with bound := bound, defn := { k.defn with action := action, target := target } }).watches }

/-- For each action and each case of a bound head: the sample fires the watch, and the head stands as the clause asks. -/
theorem witness_WatchesHoldThenFire_actions :
    (∀ x ∈ [firing .pressing plain .notify 0 none, firing .pressing plain .halt 1 none, firing .pressing plain .advance 1 none,
        firing .armed plain .advance 1 none, firing .pressing plain .advance 1 (some 1),
        firing .pressing { plain with overpolish := 1 } .notify 1 (some 1), firing .pressing plain .halt 1 (some 1),
        firing .overpolish plain .halt 1 (some 1), firing .overpolish plain .advance 1 (some 1)],
      x.running = true ∧ x.watches[0].defn.source = .latch 7 ∧ x.heads[1].steps.head?.isSome = true
        ∧ (x.watches[0].evaluate (x.sampleValue (.latch 7) 0) (max x.now (x.sampleDue (.latch 7)))).2 = true)
    ∧ (let s := latching.modWatch 0 fun k => { k with defn := { k.defn with dest := .trim 2 4 } }
       s.watches[0].defn.dest = .trim 2 4
         ∧ (s.watches[0].evaluate (s.sampleValue (.latch 7) 0) (max s.now (s.sampleDue (.latch 7)))).2 = true)
    ∧ (firing .pressing plain .halt 1 none).heads[1].state ≠ .halted
    ∧ (firing .pressing plain .advance 1 none).heads[1].state.isPressing = true
    ∧ (firing .armed plain .advance 1 none).heads[1].state.isPressing = false
    ∧ plain.overpolish = 0 ∧ { plain with overpolish := 1 }.overpolish ≠ 0
    ∧ (firing .pressing plain .halt 1 (some 1)).link.notices.length + 3 ≤ 32 := by decide +kernel

/-- A bound watch that halts H2, at rest, or moves H2 on, pressing on its own step. -/
theorem witness_WatchesHoldThenFire_otherHead :
    let s := firing .pressing plain .halt 2 (some 1)
    let t := (firing .overpolish plain .advance 2 (some 1)).modHead 2 fun d => { d with state := .pressing, steps := [plain], current := true }
    (∀ x ∈ [s, t], x.watches[0].bound = some 1 ∧ x.heads[1].step = some plain ∧ x.heads[1].state.isPressing = true
      ∧ (x.watches[0].evaluate (x.sampleValue (.latch 7) 0) (max x.now (x.sampleDue (.latch 7)))).2 = true)
    ∧ s.watches[0].defn.target ≠ 1 ∧ s.heads[2].state ≠ .halted ∧ s.link.tx.isSome = true ∧ s.link.notices.length + 6 ≤ 32
    ∧ t.watches[0].defn.action = .advance ∧ t.heads[2].state.isPressing = true ∧ t.heads[2].step = some plain := by decide +kernel

theorem witness_WatchesHoldThenFire_otherHead_wellKept :
    let t := (firing .overpolish plain .advance 2 (some 1)).modHead 2 fun d => { d with state := .pressing, steps := [plain], current := true }
    t.heads[1].WellKept ∧ t.heads[2].WellKept ∧ (firing .pressing plain .halt 2 (some 1)).heads[2].WellKept := by
  unfold Head.WellKept
  decide +kernel

/-- An endpoint without overpolish ends the step; with it, OVERPOLISH; a HALT of the bound head only records it. -/
theorem test_bound_watch_tells_its_head :
    (let t := after (.sourceSample (.latch 7) 0 []) (firing .pressing plain .notify 0 (some 1))
     t.heads[1].state = .releasing ∧ t.watches[0].state = .disarmed
       ∧ t.link.notices = [.watchFired 0 0 0 (-1) (some 1) .notify .performed 1, .stepEnd 1 7 .endpoint 0 false (some 0)])
    ∧ (let t := after (.sourceSample (.latch 7) 0 []) (firing .pressing { plain with overpolish := 1 } .advance 1 (some 1))
       t.heads[1].state = .overpolish ∧ t.watches[0].state = .fired
         ∧ t.link.notices = [.watchFired 0 0 0 (-1) (some 1) .advance .endpoint 1])
    ∧ (let t := after (.sourceSample (.latch 7) 0 []) (firing .pressing plain .halt 1 (some 1))
       t.link.notices = [.watchFired 0 0 0 (-1) (some 1) .halt .performed 1, .stepEnd 1 7 .halted 0 false (some 0),
         .headHalted 1 .watch none (some 0)]) := by decide +kernel

theorem witness_SignalRequestsAndTraceTimer :
    (parseInputCal (inputBody 32)).map Prod.fst = some 32 ∧ (parseInputCal (inputBody 33)).map Prod.fst = some 33
    ∧ (parseInputCal (inputBody 19)).map (fun q => decide (q.2.rawLo < q.2.rawHi)) = some true
    ∧ (parseInputCal (p1 0 ++ p2 5 ++ s4 0 ++ p2 5 ++ s4 0)).map (fun q => decide (q.2.rawHi ≤ q.2.rawLo)) = some true
    ∧ parseRoute routeBody = some (1, 0x14, 0, 6000) ∧ Source.id (.pressure 0 4) = 0x14
    ∧ parseRoute (p1 2 ++ p1 1 ++ s4 7 ++ s4 7) = some (2, 1, 7, 7)
    ∧ parseTrace ([1, 3, 1, 0x14, 0, 0, 0] ++ p2 10000) = some ⟨1, 3, 1, [0x14], 10000⟩ ∧ (sourceOf 0x14).isSome = true
    ∧ parseTrace ([3, 4, 5, 1, 0, 0, 0] ++ p2 10010) = some ⟨3, 4, 5, [1, 0, 0, 0], 10010⟩
    ∧ parseTrace ([0, 0, 0, 0, 0, 0, 0] ++ p2 7) = some ⟨0, 0, 0, [], 7⟩
    ∧ (let s := busy.modHub fun u => { u with trace := ⟨.whilePressing, 1, [.constant], 10, 0, some 10, 0⟩ }
       s.running = true ∧ s.hub.trace.due = some 10 ∧ s.hub.trace.gate ≠ .off ∧ s.link.tx.isSome = true
         ∧ s.heads[1].state.isPressing = false
         ∧ (s.modHub fun u => { u with trace := { u.trace with gate := .always } }).hub.trace.gate = .always) := by decide +kernel

theorem witness_MonitorsFollowTheirRoutes :
    (Route.mk .constant 1000 0).zero ≠ (Route.mk .constant 1000 0).full ∧ up.running = true
      ∧ up.hub.monitors[0].route.source = .constant := by decide +kernel

/-- LINE-READ shows the latest sample of the flow, which an INPUT-CAL does not rescale (R105, R169). -/
theorem test_inputCal_leaves_the_measured_flow :
    let flow := fun s : State => ((s.linePayload 2).drop 33).take 4
    let s := after (.sourceSample (.flow 2) 65535 []) busy
    let t := after (.inputCal 1 (p1 31 ++ p2 0 ++ s4 0 ++ p2 65535 ++ s4 600)) s
    s.hub.flows[2] = 1200 ∧ t.hub.flows[2] = 1200 ∧ t.hub.channels[31].scaled = 600 ∧ flow t = s4 1200 := by decide +kernel

theorem witness_SamplesFeedSupervisionFlowCheckAndDwell :
    let s := (working .pressing plain).modHead 1 fun d => { d with supervision := .testing }
    s.running = true ∧ (∀ w : WatchIx, s.watches[w.val].defn.source ≠ .pressure 1 4) ∧ s.heads[1].supervision = .testing
    ∧ s.heads[1].state ≠ .halted ∧ s.heads[1].limits.deviationTolerance < (301 - (s.heads[1].zones[4].command : Int)).natAbs
    ∧ (s.modHead 1 fun d => d.modZone 4 fun z => { z with deviating := some 0 }).heads[1].zones[4].deviating = some 0
    ∧ (let u := capped.modLine 2 fun c => { c with faultSince := some 0 }
       (∀ w : WatchIx, u.watches[w.val].defn.source ≠ .flow 2) ∧ u.checkRuns 2 = true ∧ u.pumpRate 2 = 200
         ∧ u.lines[2].faultSince = some 0 ∧ 200 * u.lines[2].config.tolerance / 100 < ((0 : Int) - 200).natAbs)
    ∧ (∀ w : WatchIx, sweeping.watches[w.val].defn.source ≠ .torque 0) ∧ sweeping.conds[0].arm = .sweeping := by decide +kernel

theorem witness_IndexCancelAbandonsAPendingIndex :
    let s := busy.modCar fun c => { c with state := .pending }
    s.isOpen = true ∧ s.car.state = .pending ∧ busy.car.state ≠ .pending ∧ s.link.tx.isSome = true ∧ s.link.notices.length < 32 := by
  decide +kernel

theorem witness_IndexResyncTakesThePositionFromPos :
    let s := busy.modCar fun c => { c with state := .fault }
    s.car.state = .fault ∧ s.inPosition = true ∧ { s with inPosition := false }.inPosition = false ∧ busy.car.state ≠ .fault := by
  decide +kernel

theorem witness_IndexRunsFromRequestToArrivalOrFault_request :
    parseIndex (p2 500 ++ p2 20000) = some (500, 20000) ∧ parseIndex (p2 499 ++ p2 20001) = some (499, 20001) ∧ busy.stop = false
    ∧ busy.car.state = .idle ∧ (∀ h : HeadIx, busy.heads[h.val].indexReady = true)
    ∧ (working .pressing plain).heads[1].indexReady = false := by decide +kernel

/-- The carousel in MOVING and ARRIVING, IN-POSITION deasserted. -/
def moving : State := { busy with inPosition := false }.modCar fun c => { c with state := .moving, phase := .arriving }

theorem witness_IndexRunsFromRequestToArrivalOrFault_move :
    (let s := busy.modCar fun c => { c with state := .lifting }
     s.car.state = .lifting ∧ s.car.lifted = false ∧ (∀ p : PlatenIx, s.conds[p.val].arm = .stowed)
       ∧ (s.modCond 2 fun c => { c with arm := .raising }).conds[2].arm ≠ .stowed)
    ∧ moving.car.state = .moving ∧ moving.inPosition = false ∧ moving.car.phase = .arriving ∧ (1 : Station) = moving.car.start + 1
    ∧ (2 : Station) ≠ moving.car.start + 1
    ∧ (let s := (moving.modHead 1 fun d => { d with state := .armed, indexMark := true, current := true, steps := [plain] })
       s.heads[1].step = some plain ∧ (1 + 1) % 4 ≠ plain.platen.val + 1)
    ∧ (let s := (moving.modHead 0 fun d => { d with state := .armed, indexMark := true, current := true, steps := [plain] })
       s.heads[0].step = some plain ∧ (0 + 1) % 4 = plain.platen.val + 1 ∧ s.platens[0].mode ≠ .polishing ∧ s.heads[0].snapshot = []
         ∧ (s.modPlaten 0 fun c => { c with mode := .polishing }).platens[0].mode = .polishing)
    ∧ (let s := (busy.modCar fun c => { c with state := .lifting, lifted := true }).modCond 2 fun c => { c with arm := .raising }
       s.car.state = .lifting ∧ s.car.lifted = true ∧ s.conds[2].arm = .raising ∧ s.conds[2].unheld = true
         ∧ (∀ k : PlatenIx, k ≠ 2 → s.conds[k.val].arm = .stowed)) := by decide +kernel

theorem witness_IndexRunsFromRequestToArrivalOrFault_places :
    ((moving.modPlaten 0 fun c => { c with mode := .polishing }).modHead 0 fun d =>
      { d with state := .armed, indexMark := true, current := true, steps := [plain] }).PoolWellKept := by
  unfold State.PoolWellKept State.Placed
  decide +kernel

/-- The DONE arrival takes H0, whose platen is in POLISHING, to PRESSING; the stow of the last conditioner begins MOVING. -/
theorem test_arrival_and_stow_report :
    (let s := (moving.modPlaten 0 fun c => { c with mode := .polishing }).modHead 0 fun d =>
        { d with state := .armed, indexMark := true, current := true, steps := [plain] }
     (after (.inPositionChange true 1) s).heads[0].state = .pressing)
    ∧ (let s := (busy.modCar fun c => { c with state := .lifting, lifted := true }).modCond 2 fun c => { c with arm := .raising }
       (after (.condRaisingEnd 2) s).car.state = .moving) := by decide +kernel

theorem witness_LawOfTheInterlockIsKept :
    let s := { moving with pending := [.indexTimerExpiry] }
    s.InterlockLaw ∧ s.car.state = .moving ∧ step s = .next (after .indexTimerExpiry { moving with pending := [] }) := by
  refine ⟨?_, by decide +kernel, step_after _ _ _⟩
  unfold State.InterlockLaw
  decide +kernel

/-- H1 pressing on `plain`, the end of its time limit waiting. -/
def pressing : State := { working .pressing plain with pending := [.stepTimeLimit 1] }

theorem lawful_of_idle (s : State) (h : HeadIx) (e : s.heads[h.val].state = .idle) : s.WorksLawfully h := by
  simp [State.WorksLawfully, e, HeadState.works, HeadState.flows]

theorem witness_LawOfWorkIsKept_places : pressing.PoolWellKept := by
  unfold State.PoolWellKept State.Placed
  decide +kernel

theorem witness_LawOfWorkIsKept_doses : pressing.DoseLaw := by
  refine ⟨witness_LawOfWorkIsKept_places, ?_, ?_⟩
  · unfold State.WithinBudgets; decide +kernel
  · unfold State.LiveLaw; decide +kernel

theorem witness_LawOfWorkIsKept_work : pressing.WorkLaw := by
  have e : pressing.heads[1].workStep = some plain := by decide +kernel
  refine ⟨?_, by decide +kernel, by decide +kernel, ?_⟩
  · intro h
    match h with
    | 0 => exact lawful_of_idle _ _ (by decide +kernel)
    | 2 => exact lawful_of_idle _ _ (by decide +kernel)
    | 3 => exact lawful_of_idle _ _ (by decide +kernel)
    | 1 =>
      refine ⟨fun _ => ⟨plain, e, by decide +kernel⟩, fun _ t ht => ?_, fun _ t ht hl => ?_⟩
      · obtain rfl : plain = t := Option.some.inj (e.symm.trans ht)
        decide +kernel
      · obtain rfl : plain = t := Option.some.inj (e.symm.trans ht)
        cases hl
  · have hn : ∀ r : RecIx, pressing.recs[r.val].state.present = false := by decide +kernel
    intro r _ hp
    rw [hn r] at hp
    cases hp

theorem witness_LawOfWorkIsKept :
    pressing.Safe ∧ pressing.HoldersWork ∧ step pressing = .next (after (.stepTimeLimit 1) { pressing with pending := [] }) := by
  refine ⟨⟨?_, ?_, ?_, ?_, ?_, ?_, witness_LawOfWorkIsKept_doses, witness_LawOfWorkIsKept_work⟩, ⟨?_, ?_⟩, step_after _ _ _⟩
  · unfold State.LinkBounded; decide +kernel
  · unfold State.CommandsInRange; decide +kernel
  · unfold State.HeadsWellKept Head.WellKept; decide +kernel
  · unfold State.InterlockLaw; decide +kernel
  · unfold State.ArmsFollow Conditioner.Follows; decide +kernel
  · unfold State.BoundDefined; decide +kernel
  · have hn : ∀ p : PlatenIx, pressing.conds[p.val].head = none := by decide +kernel
    intro p h hh
    rw [hn p] at hh
    cases hh
  · have hn : ∀ w : WatchIx, pressing.watches[w.val].bound = none := by decide +kernel
    intro w h hh
    rw [hn w] at hh
    cases hh

end Sys2Proof.Tests
end

section
namespace Sys2Proof.Machine

/-! ### The stages, said once -/

/-- A settle period begins by clearing deviation timers at most; every other item of a zone stays. -/
theorem Head.startSettle_zone (d : Head) (now : Nat) (z : ZoneIx) :
    ∃ x, (d.startSettle now).zones[z.val] = { d.zones[z.val] with deviating := x } := by
  unfold Head.startSettle
  split
  · exact ⟨_, rfl⟩
  · exact ⟨none, by simp⟩

@[simp] theorem Head.startSettle_state (d : Head) (now : Nat) : (d.startSettle now).state = d.state := by
  unfold Head.startSettle
  split <;> rfl

@[simp] theorem Head.startSettle_limits (d : Head) (now : Nat) : (d.startSettle now).limits = d.limits :=
  (d.startSettle_keeps now).limits

/-- Whether the head is in one of the states whose computations use its trims (R36). -/
def Head.usesTrims (d : Head) : Bool := d.state == .pressing || d.state == .overpolish || d.state == .starved

/-- The head after the five stages of a computation, no settle period begun yet. -/
def Head.staged (d : Head) (now : Nat) : Head :=
  { d.mapZones (fun z c =>
      { c with
        ramp := d.stage1 now z
        command := d.newCommand now z
        code := c.cal.codeOf (d.newCommand now z)
        lastTrim := if d.usesTrims then c.trim else c.lastTrim }) with
    marginActive := (d.stage4 now).2.2
    marginLimited := d.marginLimited || ((d.stage4 now).2.2 && d.workStep.isSome) }

/-- A computation is the five stages, and with changed trims outside a ramp the start of a settle period (R33, R43). -/
theorem Head.compute_eq (d : Head) (now : Nat) :
    d.compute now = if d.usesTrims && d.trimsChanged && d.supervision != .ramping then (d.staged now).startSettle now
      else d.staged now := rfl

/-- What a computation leaves in a zone: its stage 1 value, its new command and the code of that command. -/
theorem Head.compute_zone (d : Head) (now : Nat) (z : ZoneIx) :
    ∃ x y, (d.compute now).zones[z.val] = { d.zones[z.val] with
      ramp := d.stage1 now z, command := d.newCommand now z, code := d.zones[z.val].cal.codeOf (d.newCommand now z),
      lastTrim := x, deviating := y } := by
  rw [Head.compute_eq]
  split
  · obtain ⟨y, hy⟩ := (d.staged now).startSettle_zone now z
    exact ⟨_, y, by rw [hy]; simp [Head.staged]; rfl⟩
  · exact ⟨_, d.zones[z.val].deviating, by simp [Head.staged]; rfl⟩

theorem Head.compute_command (d : Head) (now : Nat) (z : ZoneIx) :
    (d.compute now).zones[z.val].command = d.newCommand now z := by
  obtain ⟨x, y, h⟩ := d.compute_zone now z
  rw [h]

@[simp] theorem Head.compute_state (d : Head) (now : Nat) : (d.compute now).state = d.state := by
  rw [Head.compute_eq]
  split
  · exact Head.startSettle_state _ _
  · rfl

/-- Stage 4 puts RING and Z4 into their ranges, whatever the margin. -/
theorem ringMargin_le {m r z : Int} (hr : r ≤ 8000) (hz : z ≤ 6000) :
    (ringMargin m r z).1 ≤ 8000 ∧ (ringMargin m r z).2.1 ≤ 6000 := by
  unfold ringMargin
  split
  · exact ⟨hr, hz⟩
  · split <;> dsimp only <;> omega

/-- Stage 4 leaves RING above Z4 by the margin, and neither below 0. -/
theorem ringMargin_apart {m r z : Int} (hm : 0 ≤ m) (hm' : m ≤ 8000) (hz : 0 ≤ z) :
    (ringMargin m r z).2.1 + m ≤ (ringMargin m r z).1 ∧ 0 ≤ (ringMargin m r z).2.1 := by
  unfold ringMargin
  split
  · exact ⟨by assumption, hz⟩
  · split <;> dsimp only <;> omega

/-- Every command a computation gives lies in the range of its zone (R37). -/
theorem Head.newCommand_le (d : Head) (now : Nat) (z : ZoneIx) : (d.newCommand now z : Int) ≤ zoneMax z := by
  have h0 := (stage3_mem 0 (d.stage1 now 0 + if d.state = .releasing then 0 else d.zones[(0 : ZoneIx).val].trim)).2
  have h4 := (stage3_mem 4 (d.stage1 now 4 + if d.state = .releasing then 0 else d.zones[(4 : ZoneIx).val].trim)).2
  have hk := ringMargin_le (m := d.limits.ringMargin) h0 h4
  have hz := stage3_mem z (d.stage1 now z + if d.state = .releasing then 0 else d.zones[z.val].trim)
  unfold Head.newCommand Head.stage4 Head.stage123
  split
  · next e =>
    subst e
    have := hk.1
    simp only [zoneMax, if_true]
    omega
  · split
    · next e =>
      subst e
      have := hk.2
      have : zoneMax 4 = 6000 := rfl
      omega
    · omega

/-- The RING command of a computation is above its Z4 command by the ring margin (R38). -/
theorem Head.newCommand_margin (d : Head) (now : Nat) (hm : d.limits.ringMargin ≤ 3000) :
    d.newCommand now 4 + d.limits.ringMargin ≤ d.newCommand now 0 := by
  have h4 := (stage3_mem 4 (d.stage1 now 4 + if d.state = .releasing then 0 else d.zones[(4 : ZoneIx).val].trim)).1
  have hk := ringMargin_apart (m := d.limits.ringMargin) (r := d.stage123 now 0) (by omega) (by omega) h4
  have e4 : d.newCommand now 4 = (d.stage4 now).2.1.toNat := rfl
  have e0 : d.newCommand now 0 = (d.stage4 now).1.toNat := rfl
  rw [e4, e0]
  unfold Head.stage4 Head.stage123 at *
  omega

/-! ### The two pressure laws of one head -/

/-- Every command of a head lies in the range of its zone (R37). -/
def Head.InRange (d : Head) : Prop := ∀ z : ZoneIx, (d.zones[z.val].command : Int) ≤ zoneMax z

/-- The ring margin of a head is in its range, and while the stages apply RING stays above Z4 by it (R38). -/
def Head.MarginHolds (d : Head) : Prop :=
  d.limits.ringMargin ≤ 3000 ∧ (d.state.computes = true → d.zones[4].command + d.limits.ringMargin ≤ d.zones[0].command)

/-- What becomes of a head keeps both pressure laws. -/
structure Head.KeepsLaws (d e : Head) : Prop where
  range : d.InRange → e.InRange
  margin : d.MarginHolds → e.MarginHolds

theorem Head.KeepsLaws.refl (d : Head) : d.KeepsLaws d := ⟨id, id⟩

/-- A head with the commands and the limits it had keeps the laws, unless the stages begin to apply. -/
theorem Head.KeepsLaws.of_same {d e : Head} (hc : ∀ z : ZoneIx, e.zones[z.val].command = d.zones[z.val].command)
    (hl : e.limits = d.limits) (hs : e.state.computes = true → d.state.computes = true) : d.KeepsLaws e where
  range h z := by rw [hc z]; exact h z
  margin h := by
    have h0 : e.zones[0].command = d.zones[0].command := hc 0
    have h4 : e.zones[4].command = d.zones[4].command := hc 4
    unfold Head.MarginHolds
    rw [hl, h0, h4]
    exact ⟨h.1, fun k => h.2 (hs k)⟩

/-- A head whose commands are 0 keeps the laws where the stages do not apply. -/
theorem Head.KeepsLaws.of_zero {d e : Head} (hc : ∀ z : ZoneIx, e.zones[z.val].command = 0) (hl : e.limits = d.limits)
    (hs : e.state.computes = false) : d.KeepsLaws e where
  range _ z := by rw [hc z]; exact zoneMax_nonneg z
  margin h := ⟨hl ▸ h.1, fun k => by rw [hs] at k; cases k⟩

/-- A computation restores the laws, whatever the head was before it. -/
theorem Head.KeepsLaws.of_compute {d e c : Head} {now : Nat} (he : e = c.compute now) (hl : c.limits = d.limits) :
    d.KeepsLaws e where
  range _ z := by rw [he, Head.compute_command]; exact c.newCommand_le now z
  margin h := by
    subst he
    have e0 : (c.compute now).zones[0].command = c.newCommand now 0 := c.compute_command now 0
    have e4 : (c.compute now).zones[4].command = c.newCommand now 4 := c.compute_command now 4
    unfold Head.MarginHolds
    rw [(c.compute_keeps now).limits, e0, e4]
    exact ⟨hl ▸ h.1, fun _ => c.newCommand_margin now (hl ▸ h.1)⟩

/-! ### The two pressure laws of the part -/

/-- What becomes of a state keeps both pressure laws. -/
structure State.KeepsLaws (s t : State) : Prop where
  range : s.CommandsInRange → t.CommandsInRange
  margin : s.MarginLaw → t.MarginLaw

theorem State.KeepsLaws.refl (s : State) : s.KeepsLaws s := ⟨id, id⟩

theorem State.KeepsLaws.trans {a b c : State} (h : a.KeepsLaws b) (k : b.KeepsLaws c) : a.KeepsLaws c :=
  ⟨k.range ∘ h.range, k.margin ∘ h.margin⟩

/-- The laws are kept where every head keeps them and the store is not touched. -/
theorem State.KeepsLaws.of_heads {s t : State} (hh : ∀ h : HeadIx, s.heads[h.val].KeepsLaws t.heads[h.val])
    (hs : t.store = s.store) : s.KeepsLaws t where
  range k h := (hh h).range (k h)
  margin k := by
    obtain ⟨kh, kstore⟩ := k
    unfold State.MarginLaw
    rw [hs]
    exact ⟨fun h => (hh h).margin (kh h), kstore⟩

theorem State.KeepsLaws.of_same {s t : State} (hh : t.heads = s.heads) (hs : t.store = s.store) : s.KeepsLaws t :=
  .of_heads (fun _ => by rw [hh]; exact .refl _) hs

theorem State.KeepsLaws.of_only {h : HeadIx} {s t : State} (ho : State.OnlyHead h s t)
    (hh : s.heads[h.val].KeepsLaws t.heads[h.val]) (hs : t.store = s.store) : s.KeepsLaws t :=
  .of_heads (fun k => if e : k = h then e ▸ hh else by rw [ho k e]; exact .refl _) hs

theorem State.modHead_keepsLaws (s : State) (h : HeadIx) (f : Head → Head) (hf : s.heads[h.val].KeepsLaws (f s.heads[h.val])) :
    s.KeepsLaws (s.modHead h f) :=
  .of_only (s.modHead_only h f) (by rw [s.modHead_get h f]; exact hf) rfl

/-- A change of a head outside its zones, its limits and its state. -/
theorem State.modHead_keepsLaws_of_zones (s : State) (h : HeadIx) (f : Head → Head)
    (hz : (f s.heads[h.val]).zones = s.heads[h.val].zones) (hl : (f s.heads[h.val]).limits = s.heads[h.val].limits)
    (hs : (f s.heads[h.val]).state.computes = true → s.heads[h.val].state.computes = true) : s.KeepsLaws (s.modHead h f) :=
  s.modHead_keepsLaws h f (.of_same (fun _ => by rw [hz]) hl hs)

theorem State.KeepsAllButLines.keepsLaws {s t : State} (k : s.KeepsAllButLines t) : s.KeepsLaws t := .of_same k.sameHeads k.store

/-- A loop whose turns keep the laws keeps them. -/
theorem forEach_keepsLaws {α : Type} (xs : List α) (f : α → State → State) (hf : ∀ (x : α) (s : State), s.KeepsLaws (f x s)) (s : State) :
    s.KeepsLaws (forEach xs f s) := forEach_rel State.KeepsLaws.refl State.KeepsLaws.trans xs f hf s

end Sys2Proof.Machine
end

section
namespace Sys2Proof.Machine

/-! ### Transitions of a head under the pressure laws -/

theorem State.post_keepsLaws (s : State) (n : Notice) : s.KeepsLaws (s.post n) := .of_same rfl rfl

theorem State.attempt_keepsLaws (s : State) (l : LineIx) : s.KeepsLaws (s.attempt l) := (s.attempt_keeps l).keepsLaws

theorem State.testReady_keepsLaws (s : State) : s.KeepsLaws s.testReady := .of_same s.testReady_heads s.testReady_keepsPool.store

theorem State.dropHolder_keepsLaws (s : State) (h : HeadIx) : s.KeepsLaws (s.dropHolder h) :=
  .of_same (s.dropHolder_heads h) (s.dropHolder_keepsPool h).store

/-- The end of a step changes neither the state of its head nor its zones. -/
theorem State.endStep_head (s : State) (h : HeadIx) (why : StepReason) :
    (s.endStep h why).heads[h.val].state = s.heads[h.val].state ∧ (s.endStep h why).heads[h.val].zones = s.heads[h.val].zones := by
  unfold State.endStep
  dsimp only
  split <;> simp

theorem State.endHeld_head (s : State) (h : HeadIx) (why : StepReason) :
    (s.endHeld h why).heads[h.val].state = s.heads[h.val].state ∧ (s.endHeld h why).heads[h.val].zones = s.heads[h.val].zones := by
  unfold State.endHeld
  dsimp only
  split <;> simp

theorem State.endStep_keepsLaws (s : State) (h : HeadIx) (why : StepReason) : s.KeepsLaws (s.endStep h why) :=
  have k := s.endStep_keepsPool h why
  have e := s.endStep_head h why
  .of_only (s.endStep_only h why) (.of_same (fun _ => by rw [e.2]) (k.heads h).limits fun c => e.1 ▸ c) k.store

theorem State.endHeld_keepsLaws (s : State) (h : HeadIx) (why : StepReason) : s.KeepsLaws (s.endHeld h why) :=
  have k := s.endHeld_keepsPool h why
  have e := s.endHeld_head h why
  .of_only (s.endHeld_only h why) (.of_same (fun _ => by rw [e.2]) (k.heads h).limits fun c => e.1 ▸ c) k.store

theorem State.releaseDose_keepsLaws (s : State) (h : HeadIx) : s.KeepsLaws (s.releaseDose h) :=
  (s.modHead_keepsLaws_of_zones h (fun d => { d with dose := none }) rfl rfl id).trans
    (.of_same (s.releaseDose_heads h) (s.releaseDose_keepsPool h).store)

/-- A head that enters HALTED has every command at 0 (R23, R33). -/
theorem State.haltHead_commands (s : State) (h : HeadIx) (why : HaltReason) (zone : Option ZoneIx) (watch : Option WatchIx)
    (ne : s.heads[h.val].state ≠ .halted) (z : ZoneIx) : (s.haltHead h why zone watch).heads[h.val].zones[z.val].command = 0 := by
  unfold State.haltHead
  rw [if_neg ne]
  dsimp only
  split <;> simp [State.releaseDose_heads, State.endStep_head, State.endHeld_head, Head.zeroCommands, Head.stopSupervision]

/-- What a halt makes of its head keeps the laws, whatever head of the same limits it is compared with. -/
theorem State.haltHead_head (s : State) (h : HeadIx) (why : HaltReason) (zone : Option ZoneIx) (watch : Option WatchIx) (d : Head)
    (ne : s.heads[h.val].state ≠ .halted) (hl : s.heads[h.val].limits = d.limits) :
    d.KeepsLaws (s.haltHead h why zone watch).heads[h.val] :=
  .of_zero (s.haltHead_commands h why zone watch ne) (((s.haltHead_keepsPool h why zone watch).heads h).limits.trans hl)
    (by rw [s.haltHead_state]; rfl)

theorem State.haltHead_keepsLaws (s : State) (h : HeadIx) (why : HaltReason) (zone : Option ZoneIx) (watch : Option WatchIx) :
    s.KeepsLaws (s.haltHead h why zone watch) := by
  by_cases e : s.heads[h.val].state = .halted
  · unfold State.haltHead
    rw [if_pos e]
    exact .refl s
  · exact .of_only (s.haltHead_only h why zone watch) (s.haltHead_head h why zone watch _ e rfl)
      (s.haltHead_keepsPool h why zone watch).store

theorem State.enterIdle_keepsLaws (s : State) (h : HeadIx) : s.KeepsLaws (s.enterIdle h) :=
  (s.modHead_keepsLaws_of_zones h (fun d => { d with state := .idle, snapshot := [] }) rfl rfl (by intro c; cases c)).trans
    (State.testReady_keepsLaws _)

/-- Entry to RELEASING ends in a computation (R33). -/
theorem State.enterReleasing_keepsLaws (s : State) (h : HeadIx) : s.KeepsLaws (s.enterReleasing h) :=
  have k := s.enterReleasing_keepsPool h
  have e := State.modHead_get _ h fun d => d.compute s.now
  .of_only (s.enterReleasing_only h) (.of_compute e ((Head.compute_keeps _ _).limits.symm.trans (e ▸ (k.heads h).limits))) k.store

theorem State.starveEnd_keepsLaws (s : State) (h : HeadIx) : s.KeepsLaws (s.starveEnd h) :=
  (s.endHeld_keepsLaws h _).trans (State.enterReleasing_keepsLaws _ _)

/-- Entry to STARVED holds the commands of a head under the stages. -/
theorem State.enterStarved_keepsLaws (s : State) (h : HeadIx) (ended : Step) (hc : s.heads[h.val].state.computes = true) :
    s.KeepsLaws (s.enterStarved h ended) := by
  have h1 : s.KeepsLaws (s.modHead h fun d =>
      let d' := if d.supervision = .ramping then d.startSettle s.now else d
      { d' with state := .starved, held := some ended, frozenClock := s.now - d.pressStart, entered := s.now,
                marginLimited := false }) := by
    refine s.modHead_keepsLaws h _ (.of_same (fun z => ?_) ?_ fun _ => hc)
    · dsimp only
      split
      · obtain ⟨x, hx⟩ := s.heads[h.val].startSettle_zone s.now z
        rw [hx]
      · rfl
    · dsimp only
      split
      · exact (s.heads[h.val].startSettle_keeps s.now).limits
      · rfl
  unfold State.enterStarved
  dsimp only
  split
  · exact h1.trans (State.starveEnd_keepsLaws _ h)
  · exact h1

/-- The end of the entry to PRESSING is a computation of its head. -/
theorem State.pressOn_head (s : State) (h : HeadIx) (t : Step) :
    (s.pressOn h t).heads[h.val] = s.heads[h.val].compute s.now := by
  unfold State.pressOn
  dsimp only
  split <;> simp

/-- Entry to PRESSING ends in a computation, or in HALTED where its watch cannot be bound (R11, R121). -/
theorem State.enterPressing_keepsLaws (s : State) (h : HeadIx) : s.KeepsLaws (s.enterPressing h) := by
  refine .of_only (s.enterPressing_only h) ?_ (s.enterPressing_keepsPool h).store
  unfold State.enterPressing
  split
  · exact .refl _
  · next t _ =>
    have bound : ∀ u : State, u.heads[h.val].state ≠ .halted → u.heads[h.val].limits = s.heads[h.val].limits →
        s.heads[h.val].KeepsLaws (match t.watch with
          | none => u.pressOn h t
          | some w =>
            if u.watches[w.val].state = WatchState.undefined then u.haltHead h .watchMissing none (some w)
            else if u.watches[w.val].bound.isSome && u.watches[w.val].bound != some h then u.haltHead h .watchBusy none (some w)
            else (u.bind w h).pressOn h t).heads[h.val] := fun u hs hl => by
      split
      · exact .of_compute (u.pressOn_head h t) hl
      · split
        · exact u.haltHead_head h _ _ _ _ hs hl
        · split
          · exact u.haltHead_head h _ _ _ _ hs hl
          · exact .of_compute (State.pressOn_head _ h t) hl
    dsimp only
    apply bound
    · split <;> simp [State.setModes]
    · split <;> simp [State.setModes]

theorem State.enterWetting_keepsLaws (s : State) (h : HeadIx) : s.KeepsLaws (s.enterWetting h) := by
  unfold State.enterWetting
  split
  · exact .refl s
  · have h1 := s.modHead_keepsLaws_of_zones h (fun d => { d with state := .wetting, entered := s.now, snapshot := [] }) rfl rfl
      (by intro c; cases c)
    dsimp only
    split
    · exact h1.trans (State.enterPressing_keepsLaws _ h)
    · exact h1

/-- The succession of steps starts under the stages. -/
theorem State.succeed_keepsLaws (s : State) (h : HeadIx) (ended : Step) (hc : s.heads[h.val].state.computes = true) :
    s.KeepsLaws (s.succeed h ended) := by
  unfold State.succeed
  split
  · have h1 := s.modHead_keepsLaws_of_zones h Head.makeCurrent rfl rfl id
    dsimp only
    split
    · refine State.KeepsLaws.trans ?_ (State.enterPressing_keepsLaws _ h)
      split
      · exact h1
      · exact h1.trans (State.dropHolder_keepsLaws _ h)
    · exact h1.trans (State.enterReleasing_keepsLaws _ h)
  · split
    · exact s.enterStarved_keepsLaws h ended hc
    · exact s.enterReleasing_keepsLaws h

theorem State.endAndSucceed_keepsLaws (s : State) (h : HeadIx) (why : StepReason) (hc : s.heads[h.val].state.computes = true) :
    s.KeepsLaws (s.endAndSucceed h why) := by
  unfold State.endAndSucceed
  split
  · exact .refl s
  · exact (s.endStep_keepsLaws h why).trans (State.succeed_keepsLaws _ h _ ((s.endStep_head h why).1 ▸ hc))

/-- The stages apply to a head that presses. -/
theorem HeadState.computes_of_isPressing {x : HeadState} (h : x.isPressing = true) : x.computes = true := by
  cases x <;> simp_all [HeadState.isPressing, HeadState.computes]

/-! ### Arming and submission -/

theorem State.enqueue_keepsLaws (s : State) (r : RecIx) (d : DoseRec) : s.KeepsLaws (s.enqueue r d) :=
  .of_same rfl (s.enqueue_keeps r d).store

theorem State.submitHead_keepsLaws (s : State) (h : HeadIx) : s.KeepsLaws (s.submitHead h) := by
  unfold State.submitHead
  split
  · next r _ _ =>
    split
    · exact .refl s
    · dsimp only
      split
      · exact s.haltHead_keepsLaws h _ _ _
      · exact ((s.modHead_keepsLaws_of_zones h (fun d => { d with dose := some r }) rfl rfl id).trans
          (State.enqueue_keepsLaws _ _ _)).trans (State.attempt_keepsLaws _ _)
  · exact .refl s

theorem State.testArmed_keepsLaws (s : State) (h : HeadIx) : s.KeepsLaws (s.testArmed h) := by
  unfold State.testArmed
  dsimp only
  split
  · exact .refl s
  · split
    · split
      · exact (s.modHead_keepsLaws_of_zones h (fun d => { d with state := .slurryWait, dose := none }) rfl rfl
          (by intro c; cases c)).trans (State.submitHead_keepsLaws _ h)
      · exact s.enterWetting_keepsLaws h
    · exact .refl s

theorem State.checkStation_keepsLaws (s : State) (h : HeadIx) : s.KeepsLaws (s.checkStation h) := by
  unfold State.checkStation
  split
  · exact .refl s
  · split
    · exact s.testArmed_keepsLaws h
    · exact s.haltHead_keepsLaws h _ _ _

/-- What follows once a head with a current step stands in ARMED. -/
theorem State.enterArmed_of_step (s : State) (h : HeadIx) (t : Step) (e : s.heads[h.val].step = some t) :
    (s.modHead h fun d => { d with state := .armed, snapshot := if t.waitDoses then s.barrier t.platen else [] }).KeepsLaws
      (s.enterArmed h) := by
  unfold State.enterArmed
  rw [e]
  dsimp only
  by_cases m : s.heads[h.val].indexMark = true
  · rw [if_pos m]
    exact State.testReady_keepsLaws _
  · rw [if_neg m]
    exact State.checkStation_keepsLaws _ h

theorem State.enterArmed_keepsLaws (s : State) (h : HeadIx) : s.KeepsLaws (s.enterArmed h) := by
  cases e : s.heads[h.val].step with
  | none =>
    unfold State.enterArmed
    rw [e]
    exact .refl s
  | some t => exact (s.modHead_keepsLaws_of_zones h _ rfl rfl (by intro c; cases c)).trans (s.enterArmed_of_step h t e)

theorem State.tellIndexDone_keepsLaws (s : State) (h : HeadIx) : s.KeepsLaws (s.tellIndexDone h) := by
  unfold State.tellIndexDone
  dsimp only
  split
  · exact (s.modHead_keepsLaws_of_zones h (fun d => { d with indexMark := false }) rfl rfl id).trans
      (State.checkStation_keepsLaws _ h)
  · exact .refl s

/-! ### What the pool tells a head, and completion -/

theorem State.tellLoss_keepsLaws (s : State) (r : RecIx) : s.KeepsLaws (s.tellLoss r) := by
  unfold State.tellLoss
  split
  · exact .refl s
  · split
    · exact s.haltHead_keepsLaws _ _ _ _
    · exact .refl s

theorem State.tellFlowing_keepsLaws (s : State) (r : RecIx) : s.KeepsLaws (s.tellFlowing r) := by
  unfold State.tellFlowing
  split
  · exact .refl s
  · split
    · exact s.enterWetting_keepsLaws _
    · exact .refl s

theorem State.tellIdle_keepsLaws (s : State) (r : RecIx) : s.KeepsLaws (s.tellIdle r) := by
  unfold State.tellIdle
  split
  · exact .refl s
  · split
    · exact s.submitHead_keepsLaws _
    · exact .refl s

theorem State.close_keepsLaws (s : State) (r : RecIx) (why : DoseReason) : s.KeepsLaws (s.close r why) := (s.close_keeps r why).keepsLaws

theorem State.closeAndTell_keepsLaws (s : State) (r : RecIx) (why : DoseReason) : s.KeepsLaws (s.closeAndTell r why) := by
  unfold State.closeAndTell
  split
  · exact (s.close_keepsLaws r why).trans (State.tellLoss_keepsLaws _ r)
  · exact .refl s

theorem State.clearSnapshot_keepsLaws (s : State) (r : RecIx) (h : HeadIx) : s.KeepsLaws (s.clearSnapshot r h) := by
  unfold State.clearSnapshot
  dsimp only
  split
  · exact (s.modHead_keepsLaws_of_zones h (fun d => { d with snapshot := d.snapshot.erase r }) rfl rfl id).trans
      (State.testArmed_keepsLaws _ h)
  · exact .refl s

theorem State.poolDone_keepsLaws (s : State) (r : RecIx) : s.KeepsLaws (s.poolDone r) := by
  unfold State.poolDone
  split
  · exact (s.modRec_keeps r _).keepsLaws.trans (State.tellIdle_keepsLaws _ r)
  · exact (State.KeepsLaws.of_same (s.returnRecord_heads r) (s.returnRecord_keeps r).store).trans
      (forEach_keepsLaws _ _ (fun h s => s.clearSnapshot_keepsLaws r h) _)

theorem State.finishTeardown_keepsLaws (s : State) (l : LineIx) : s.KeepsLaws (s.finishTeardown l) :=
  .of_same (s.finishTeardown_heads l) (s.finishTeardown_keepsPool l).store

theorem State.round_keepsLaws (s : State) (p : PlatenIx) (asked : State → LineIx → Bool) : s.KeepsLaws (s.round p asked) :=
  (s.round_keeps p asked).keepsLaws

theorem State.closingEnd_keepsLaws (s : State) (r : RecIx) : s.KeepsLaws (s.closingEnd r) := by
  have hl : ∀ f, s.KeepsLaws (s.modLine s.recs[r.val].line f) := fun f => .of_same rfl rfl
  have hp : ∀ (u : State) p f, u.KeepsLaws (u.modPlaten p f) := fun u p f => .of_same rfl rfl
  unfold State.closingEnd
  dsimp only
  split
  · exact (hl _).trans (State.poolDone_keepsLaws _ r)
  · refine State.KeepsLaws.trans ?_ (State.round_keepsLaws _ _ _)
    have h1 := fun f p g => ((hl f).trans (hp _ p g)).trans (State.poolDone_keepsLaws _ r)
    split
    · exact (h1 _ _ _).trans (State.finishTeardown_keepsLaws _ _)
    · exact (h1 _ _ _).trans (State.attempt_keepsLaws _ _)

/-! ### Watches and samples -/

theorem State.tellEndpoint_keepsLaws (s : State) (d : WatchDef) (h : HeadIx) : s.KeepsLaws (s.tellEndpoint d h) := by
  unfold State.tellEndpoint
  dsimp only
  split
  · next e =>
    have hc : s.heads[h.val].state.computes = true := by rw [e]; rfl
    have h1 := s.modHead_keepsLaws_of_zones h (fun c => { c with endpoint := some (c.clock s.now) }) rfl rfl id
    split
    · exact h1
    · split
      · exact h1
      · split
        · exact h1.trans (State.endAndSucceed_keepsLaws _ h _ (by simpa using hc))
        · exact h1.trans (State.modHead_keepsLaws_of_zones _ h _ rfl rfl fun _ => by simpa using hc)
  · exact .refl s

/-- A change of one zone that leaves its command. -/
theorem State.modZone_keepsLaws (s : State) (h : HeadIx) (z : ZoneIx) (f : Zone → Zone) (hf : ∀ c, (f c).command = c.command) :
    s.KeepsLaws (s.modHead h fun d => d.modZone z f) := by
  refine s.modHead_keepsLaws h _ (.of_same (fun k => ?_) rfl id)
  rw [Head.modZone_zones, get_set]
  split
  · next e => rw [hf, e]
  · rfl

/-- A change of all zones that leaves their commands. -/
theorem State.mapZones_keepsLaws (s : State) (h : HeadIx) (f : ZoneIx → Zone → Zone) (hf : ∀ z c, (f z c).command = c.command) :
    s.KeepsLaws (s.modHead h fun d => d.mapZones f) :=
  s.modHead_keepsLaws h _ (.of_same (fun k => by rw [Head.mapZones_get, hf]) rfl id)

theorem State.act_keepsLaws (s : State) (w : WatchIx) (d : WatchDef) (bound : Option HeadIx) (v : Int) :
    s.KeepsLaws (s.act w d bound v) := by
  unfold State.act
  split
  · exact .refl s
  · split
    · exact .refl s
    · split
      · next e => exact s.endAndSucceed_keepsLaws _ _ (HeadState.computes_of_isPressing e)
      · exact .refl s
  · exact s.haltHead_keepsLaws _ _ _ _
  · split
    · exact .of_same rfl rfl
    · exact s.modZone_keepsLaws _ _ _ fun _ => rfl

theorem State.fire_keepsLaws (s : State) (w : WatchIx) (v : Int) : s.KeepsLaws (s.fire w v) := by
  unfold State.fire
  dsimp only
  refine State.KeepsLaws.trans ?_ (State.act_keepsLaws _ _ _ _ _)
  split
  · exact .of_same rfl rfl
  · refine State.KeepsLaws.trans ?_ (State.tellEndpoint_keepsLaws _ _ _)
    exact .of_same rfl rfl

theorem State.watchSample_keepsLaws (s : State) (w : WatchIx) (v : Int) : s.KeepsLaws (s.watchSample w v) := by
  have h1 : ∀ f, s.KeepsLaws (s.modWatch w f) := fun f => .of_same rfl rfl
  unfold State.watchSample
  dsimp only
  split
  · exact (h1 _).trans (State.fire_keepsLaws _ w v)
  · exact h1 _

theorem State.superviseSample_keepsLaws (s : State) (h : HeadIx) (z : ZoneIx) (v : Int) : s.KeepsLaws (s.superviseSample h z v) := by
  have h1 : ∀ x, s.KeepsLaws (s.modHead h fun d => d.modZone z fun c => { c with deviating := x }) := fun x =>
    s.modZone_keepsLaws h z _ fun _ => rfl
  unfold State.superviseSample
  dsimp only
  split
  · split
    · split
      · exact (h1 _).trans (State.haltHead_keepsLaws _ h _ _ _)
      · exact h1 _
    · exact h1 _
  · exact .refl s

theorem State.faultLine_keepsLaws (s : State) (l : LineIx) (measured : Int) : s.KeepsLaws (s.faultLine l measured) := by
  unfold State.faultLine
  dsimp only
  refine (State.KeepsLaws.trans ?_ (forEach_keepsLaws _ _ (fun r s => s.closeAndTell_keepsLaws r .lineFault) _)).trans
    (State.post_keepsLaws _ _)
  exact .of_same rfl rfl

theorem State.flowSample_keepsLaws (s : State) (l : LineIx) (v : Int) : s.KeepsLaws (s.flowSample l v) := by
  unfold State.flowSample
  dsimp only
  split
  · split
    · split
      · exact s.faultLine_keepsLaws l v
      · exact .of_same rfl rfl
    · exact .of_same rfl rfl
  · exact .refl s

theorem State.useSample_keepsLaws (s : State) (src : Source) (v : Int) (first : Bool) (x : SampleUser) :
    s.KeepsLaws (s.useSample src v first x) := by
  unfold State.useSample
  split
  · split
    · split
      · exact s.modZone_keepsLaws _ _ _ fun _ => rfl
      · exact .refl s
    · exact .refl s
  · split
    · exact s.watchSample_keepsLaws _ v
    · exact .refl s
  · split
    · exact s.superviseSample_keepsLaws _ _ v
    · exact .refl s
  · split
    · exact s.flowSample_keepsLaws _ v
    · exact .refl s
  · split
    · exact .of_same rfl rfl
    · exact .refl s
  · split
    · exact .of_same rfl rfl
    · exact .refl s

theorem State.sample_keepsLaws (s : State) (src : Source) (raw : Nat) (order : List SampleUser) :
    s.KeepsLaws (s.sample src raw order) := by
  unfold State.sample
  dsimp only
  refine State.KeepsLaws.trans ?_ (forEach_keepsLaws _ _ (fun x s => s.useSample_keepsLaws src _ _ x) _)
  split <;> exact .of_same rfl rfl

end Sys2Proof.Machine
end

section
namespace Sys2Proof.Machine

/-! ### Requests under the pressure laws -/

/-- A handler keeps the pressure laws, whatever BODY it judges. -/
def Handler.KeepsLaws (f : Handler) : Prop := ∀ (body : List Byte) (s : State), s.KeepsLaws (f body s).2

theorem withBody_keepsLaws {α : Type} {parse : List Byte → Option α} {f : α → State → Response × State}
    (hf : ∀ (q : α) (s : State), s.KeepsLaws (f q s).2) : Handler.KeepsLaws (withBody parse f) := fun body s => by
  unfold withBody
  split
  · exact .refl s
  · exact hf _ s

theorem withIx_keepsLaws {k : Nat} {f : Fin k → State → Response × State} (hf : ∀ (i : Fin k) (s : State), s.KeepsLaws (f i s).2)
    (n : Nat) (s : State) : s.KeepsLaws (withIx k f n s).2 := by
  unfold withIx
  split
  · exact .refl s
  · exact hf _ s

theorem withPlaten_keepsLaws {f : PlatenIx → State → Response × State} (hf : ∀ (p : PlatenIx) (s : State), s.KeepsLaws (f p s).2)
    (n : Nat) (s : State) : s.KeepsLaws (withPlaten f n s).2 := by
  unfold withPlaten
  split
  · exact .refl s
  · exact hf _ s

/-! #### Heads and zones -/

theorem State.placeStep_keepsLaws (s : State) (h : HeadIx) (t : Step) : s.KeepsLaws (s.placeStep h t) := by
  have h1 := s.modHead_keepsLaws_of_zones h (fun d => { d with steps := d.steps ++ [t] }) rfl rfl id
  unfold State.placeStep
  dsimp only
  split
  · next hs _ =>
    refine (h1.trans (State.modHead_keepsLaws_of_zones _ h (fun d => { d with held := none }) rfl rfl id)).trans
      (State.succeed_keepsLaws _ h _ ?_)
    simp [hs, HeadState.computes]
  · exact h1

theorem handleStepLoad_keepsLaws : handleStepLoad.KeepsLaws := withBody_keepsLaws fun q s => by
  split
  · split
    · exact .refl s
    · split
      · exact .refl s
      · split
        · exact .refl s
        · exact s.placeStep_keepsLaws _ _
  · exact .refl s

theorem handleHeadStart_keepsLaws : handleHeadStart.KeepsLaws := withBody_keepsLaws <| withIx_keepsLaws fun h s => by
  dsimp only
  split
  · exact .refl s
  · split
    · exact .refl s
    · split
      · exact .refl s
      · exact (s.modHead_keepsLaws_of_zones h Head.makeCurrent rfl rfl id).trans (State.enterArmed_keepsLaws _ h)

theorem handleHeadResume_keepsLaws : handleHeadResume.KeepsLaws := withBody_keepsLaws <| withIx_keepsLaws fun h s => by
  split
  · exact .refl s
  · split
    · exact .refl s
    · exact (s.modHead_keepsLaws_of_zones h (fun d => { d with haltReason := none }) rfl rfl id).trans
        (State.enterIdle_keepsLaws _ h)

/-- A flush ends in IDLE, in RELEASING with a computation, or where the head was. -/
theorem State.flushBy_keepsLaws (s : State) (h : HeadIx) : s.KeepsLaws (s.flushBy h) := by
  have e := s.endStep_keepsLaws h .flushed
  unfold State.flushBy
  split
  · exact .refl s
  · exact .refl s
  · exact e.trans (State.enterIdle_keepsLaws _ h)
  · exact (e.trans (State.releaseDose_keepsLaws _ h)).trans (State.enterIdle_keepsLaws _ h)
  · exact e.trans (State.enterReleasing_keepsLaws _ h)
  · exact e.trans (State.enterReleasing_keepsLaws _ h)
  · exact e.trans (State.enterReleasing_keepsLaws _ h)
  · exact (s.endHeld_keepsLaws h _).trans (State.enterReleasing_keepsLaws _ h)
  · exact e

theorem handleHeadFlush_keepsLaws : handleHeadFlush.KeepsLaws := withBody_keepsLaws <| withIx_keepsLaws fun h s =>
  (s.modHead_keepsLaws_of_zones h (fun d => { d with steps := if s.heads[h.val].current then s.heads[h.val].steps.take 1 else [] })
    rfl rfl id).trans (State.flushBy_keepsLaws _ h)

theorem State.toStandby_keepsLaws (s : State) (h : HeadIx) : s.KeepsLaws (s.toStandby h) :=
  s.mapZones_keepsLaws h _ fun _ _ => rfl

theorem handleHeadStandby_keepsLaws : handleHeadStandby.KeepsLaws := withBody_keepsLaws fun q s => by
  split
  · next h b _ _ =>
    split
    · exact .refl s
    · exact (s.modHead_keepsLaws_of_zones h (fun d => { d with standby := b }) rfl rfl id).trans (State.toStandby_keepsLaws _ h)
  · exact .refl s

theorem handleTrimSet_keepsLaws : handleTrimSet.KeepsLaws := withBody_keepsLaws fun q s =>
  withIx_keepsLaws (fun h s => s.mapZones_keepsLaws h (fun z c => { c with trim := clampTrim q.trims[z.val] }) fun _ _ => rfl) q.head s

/-- The stages do not apply to a head at rest. -/
theorem Head.computes_of_atRest {d : Head} (h : d.atRest = true) : d.state.computes = false := by
  unfold Head.atRest at h
  cases e : d.state <;> simp_all [HeadState.computes]

/-- New limits take a ring margin in its range to a head at rest (R28). -/
theorem handleHeadLimits_keepsLaws : handleHeadLimits.KeepsLaws := withBody_keepsLaws fun q s => by
  split
  · exact .refl s
  · next h _ =>
    split
    · exact .refl s
    · next hr =>
      split
      · exact .refl s
      · next ha =>
        refine s.modHead_keepsLaws h (fun d => { d with limits := q.2 }) ⟨id, fun _ => ⟨?_, fun c => ?_⟩⟩
        · simp only [HeadLimits.inRange, Bool.not_eq_true', Bool.not_eq_false, Bool.and_eq_true, decide_eq_true_eq] at hr
          exact hr.1.1.1.1.1.1.1.1
        · have rest : s.heads[h.val].state.computes = false := Head.computes_of_atRest (by simpa using ha)
          exact absurd (rest.symm.trans c) (by decide)

theorem handleZoneCal_keepsLaws : handleZoneCal.KeepsLaws := withBody_keepsLaws fun q s => by
  split
  · split
    · exact .refl s
    · exact s.modZone_keepsLaws _ _ (fun c => { c with cal := q.cal }) fun _ => rfl
  · exact .refl s

/-! #### Platens, doses and lines -/

/-- A loop that carries a count along. -/
theorem foldl_keepsLaws {α : Type} (f : State × Nat → α → State × Nat) (hf : ∀ (a : State × Nat) (x : α), a.1.KeepsLaws (f a x).1)
    (xs : List α) (a : State × Nat) : a.1.KeepsLaws (xs.foldl f a).1 := by
  induction xs generalizing a with
  | nil => exact .refl _
  | cons x xs ih => exact (hf a x).trans (ih (f a x))

theorem tellHeadDemotion_keepsLaws (p : PlatenIx) (a : State × Nat) (h : HeadIx) : a.1.KeepsLaws (tellHeadDemotion p a h).1 := by
  unfold tellHeadDemotion
  split
  · exact a.1.haltHead_keepsLaws h _ _ _
  · exact .refl _

theorem tellLineDemotion_keepsLaws (p : PlatenIx) (a : State × Nat) (l : LineIx) : a.1.KeepsLaws (tellLineDemotion p a l).1 :=
  forEach_keepsLaws _ _ (fun r s => s.closeAndTell_keepsLaws r _) _

theorem State.tellDemotion_keepsLaws (s : State) (p : PlatenIx) : s.KeepsLaws (s.tellDemotion p).1 := by
  unfold State.tellDemotion
  dsimp only
  refine .trans ?_ (foldl_keepsLaws _ (tellLineDemotion_keepsLaws p) _ _)
  refine .trans ?_ (foldl_keepsLaws _ (tellHeadDemotion_keepsLaws p) _ _)
  split
  · exact .refl s
  · exact .of_same rfl rfl

theorem State.tellPromotion_keepsLaws (s : State) (p : PlatenIx) : s.KeepsLaws (s.tellPromotion p) := by
  unfold State.tellPromotion
  split
  · refine forEach_keepsLaws _ _ (fun h s => ?_) s
    split
    · exact s.testArmed_keepsLaws h
    · exact .refl s
  · exact .refl s

theorem State.changeMode_keepsLaws (s : State) (p : PlatenIx) (m : Mode) : s.KeepsLaws (s.changeMode p m).1 := by
  have h1 : s.KeepsLaws (s.modPlaten p fun c => { c with mode := m }) := .of_same rfl rfl
  unfold State.changeMode
  dsimp only
  refine (h1.trans ?_).trans (State.round_keepsLaws _ p _)
  split
  · exact State.tellDemotion_keepsLaws _ p
  · exact State.tellPromotion_keepsLaws _ p

theorem handlePlatenMode_keepsLaws : handlePlatenMode.KeepsLaws := withBody_keepsLaws fun q s => by
  split
  · dsimp only
    split
    · exact .refl s
    · dsimp only
      exact s.changeMode_keepsLaws _ _
  · exact .refl s

theorem handlePlatenConfig_keepsLaws : handlePlatenConfig.KeepsLaws := withBody_keepsLaws fun q s => by
  split
  · dsimp only
    split
    · exact .refl s
    · dsimp only
      refine .trans ?_ (State.round_keepsLaws _ _ _)
      exact .of_same rfl rfl
  · exact .refl s

theorem handleDoseSubmit_keepsLaws : handleDoseSubmit.KeepsLaws := withBody_keepsLaws fun q s => by
  split
  · split
    · exact .refl s
    · split
      · exact .refl s
      · split
        · exact .refl s
        · exact .refl s
        · refine (State.KeepsLaws.trans ?_ (State.enqueue_keepsLaws _ _ _)).trans (State.attempt_keepsLaws _ _)
          exact .of_same rfl rfl
  · exact .refl s

theorem State.unqueue_keepsLaws (s : State) (r : RecIx) (why : DoseReason) : s.KeepsLaws (s.unqueue r why) := .of_same rfl rfl

theorem State.cancel_keepsLaws (s : State) (r : RecIx) : s.KeepsLaws (s.cancel r) := by
  unfold State.cancel
  split
  · exact ((s.unqueue_keepsLaws r _).trans (State.poolDone_keepsLaws _ r)).trans (State.attempt_keepsLaws _ _)
  · exact s.close_keepsLaws r _

theorem handleDoseCancel_keepsLaws : handleDoseCancel.KeepsLaws := withBody_keepsLaws <| withIx_keepsLaws fun r s => by
  dsimp only
  split
  · exact .refl s
  · split
    · exact s.cancel_keepsLaws r
    · exact .refl s

theorem handleDoseRelease_keepsLaws : handleDoseRelease.KeepsLaws := withBody_keepsLaws <| withIx_keepsLaws fun r s => by
  split
  · exact .of_same rfl rfl
  · exact .refl s

theorem handleLineConfig_keepsLaws : handleLineConfig.KeepsLaws := withBody_keepsLaws fun q s => by
  split
  · dsimp only
    split
    · exact .refl s
    · split
      · exact .refl s
      · refine .trans ?_ (State.attempt_keepsLaws _ _)
        exact .of_same rfl rfl
  · exact .refl s

theorem State.openLine_keepsLaws (s : State) (l : LineIx) : s.KeepsLaws (s.openLine l) := by
  unfold State.openLine
  split
  · refine .trans ?_ (State.attempt_keepsLaws _ l)
    exact .of_same rfl rfl
  · refine .trans ?_ (State.attempt_keepsLaws _ l)
    exact .of_same rfl rfl
  · exact .refl s

theorem State.removeTorn_keepsLaws (l : LineIx) (r : RecIx) (s : State) : s.KeepsLaws (State.removeTorn l r s) := by
  refine (((s.unqueue_keepsLaws r .tornDown).trans (State.poolDone_keepsLaws _ r)).trans (State.tellLoss_keepsLaws _ r)).trans ?_
  exact .of_same rfl rfl

theorem State.tearDown_keepsLaws (s : State) (l : LineIx) : s.KeepsLaws (s.tearDown l) := by
  unfold State.tearDown
  dsimp only
  refine .trans ?_ (State.finishTeardown_keepsLaws _ l)
  refine .trans ?_ (forEach_keepsLaws _ _ (fun r s => s.closeAndTell_keepsLaws r .tornDown) _)
  refine .trans ?_ (forEach_keepsLaws _ _ (fun r s => s.removeTorn_keepsLaws l r) _)
  exact .of_same rfl rfl

theorem handleLineTeardown_keepsLaws : handleLineTeardown.KeepsLaws := withBody_keepsLaws <| withIx_keepsLaws fun l s => by
  dsimp only
  split
  · exact .refl s
  · exact s.tearDown_keepsLaws l

theorem handleLinePrime_keepsLaws : handleLinePrime.KeepsLaws := withBody_keepsLaws <| withIx_keepsLaws fun l s => by
  split
  · exact .of_same rfl rfl
  · exact .refl s

/-! #### Conditioners, wear maps, watches, signals and the carousel -/

theorem handleCondProfile_keepsLaws : handleCondProfile.KeepsLaws := withBody_keepsLaws fun q s => by
  split
  · exact .refl s
  · split
    · exact .refl s
    · split
      · exact .refl s
      · exact .of_same rfl rfl

theorem handleCondRun_keepsLaws : handleCondRun.KeepsLaws := withBody_keepsLaws fun q s => by
  split
  · exact .refl s
  · split
    · exact .refl s
    · split
      · exact .refl s
      · split
        · exact .refl s
        · split
          · exact .refl s
          · exact .of_same rfl rfl

theorem handleCondStop_keepsLaws : handleCondStop.KeepsLaws := withBody_keepsLaws <| withPlaten_keepsLaws fun p s => by
  split
  · exact .refl s
  · exact .of_same rfl rfl

theorem handlePadChange_keepsLaws : handlePadChange.KeepsLaws := withBody_keepsLaws <| withPlaten_keepsLaws fun p s => by
  split
  · exact .of_same rfl rfl
  · exact .refl s

theorem handleWearSet_keepsLaws : handleWearSet.KeepsLaws := withBody_keepsLaws fun q s => by
  split
  · split
    · exact .refl s
    · exact .of_same rfl rfl
  · exact .refl s

theorem handleWatchDefine_keepsLaws : handleWatchDefine.KeepsLaws := withBody_keepsLaws fun q s => by
  split
  · dsimp only
    split
    · exact .refl s
    · exact .of_same rfl rfl
  · exact .refl s

theorem handleWatchArm_keepsLaws : handleWatchArm.KeepsLaws := withBody_keepsLaws <| withIx_keepsLaws fun w s => by
  split
  · exact .of_same rfl rfl
  · exact .refl s

theorem handleWatchDisarm_keepsLaws : handleWatchDisarm.KeepsLaws := withBody_keepsLaws <| withIx_keepsLaws fun w s => by
  dsimp only
  split
  · exact .refl s
  · exact .of_same rfl rfl

theorem handleWatchExchange_keepsLaws : handleWatchExchange.KeepsLaws := withBody_keepsLaws fun q s => by
  split
  · exact .refl s
  · dsimp only
    split
    · exact .refl s
    · exact .of_same rfl rfl

/-- A new input calibration clears a zone's offset and flag at most. -/
theorem State.calibrate_keepsLaws (s : State) (c : ChanIx) (cal : InputCal) : s.KeepsLaws (s.calibrate c cal) := by
  unfold State.calibrate
  dsimp only
  split
  · exact .of_same rfl rfl
  · refine .trans ?_ (State.modZone_keepsLaws _ _ _ Zone.clearOffset fun _ => rfl)
    exact .of_same rfl rfl

theorem handleInputCal_keepsLaws : handleInputCal.KeepsLaws := withBody_keepsLaws fun q s => by
  split
  · exact .refl s
  · split
    · exact .refl s
    · exact s.calibrate_keepsLaws _ _

theorem handleSourceRead_keepsLaws : handleSourceRead.KeepsLaws := withBody_keepsLaws fun q s => by
  split <;> exact .refl s

theorem handleMonitorRoute_keepsLaws : handleMonitorRoute.KeepsLaws := withBody_keepsLaws fun q s => by
  split
  · split
    · exact .refl s
    · exact .of_same rfl rfl
  · exact .refl s

theorem handleTraceSet_keepsLaws : handleTraceSet.KeepsLaws := withBody_keepsLaws fun q s => by
  split
  · exact .refl s
  · exact .of_same rfl rfl

theorem handleIndexRequest_keepsLaws : handleIndexRequest.KeepsLaws := withBody_keepsLaws fun q s => by
  split
  · exact .refl s
  · split
    · exact .refl s
    · split
      · exact .refl s
      · refine State.KeepsLaws.trans ?_ (State.testReady_keepsLaws _)
        exact .of_same rfl rfl

theorem handleIndexCancel_keepsLaws : handleIndexCancel.KeepsLaws := withBody_keepsLaws fun q s => by
  split
  · exact .of_same rfl rfl
  · exact .refl s

theorem handleIndexResync_keepsLaws : handleIndexResync.KeepsLaws := withBody_keepsLaws fun q s => by
  split
  · exact .refl s
  · split
    · exact .refl s
    · exact .of_same rfl rfl

/-! #### The store -/

/-- Every ring margin in the store or on its way to the image is in its range (R193). -/
def State.StoredMargins (s : State) : Prop :=
  s.store.image.config.MarginsInRange ∧ s.store.workConfig.MarginsInRange
    ∧ ∀ job, s.store.save = .writing job → job.config.MarginsInRange

/-- The laws are kept where no head moves and what the store takes keeps the margins in range. -/
theorem State.KeepsLaws.of_store {s t : State} (hh : t.heads = s.heads) (hs : s.MarginLaw → t.StoredMargins) : s.KeepsLaws t where
  range := by
    unfold State.CommandsInRange
    rw [hh]
    exact id
  margin k := by
    have m := hs k
    obtain ⟨kh, -⟩ := k
    unfold State.MarginLaw
    rw [hh]
    exact ⟨kh, m⟩

theorem State.beginSave_keepsLaws (s : State) (cause : SaveCause) : s.KeepsLaws (s.beginSave cause) :=
  .of_store rfl fun ⟨_, hi, hw, _⟩ => ⟨hi, hw, fun _ e => by cases e; exact hw⟩

theorem State.commit_keepsLaws (s : State) (p : PlatenIx) (cause : SaveCause) : s.KeepsLaws (s.commit p cause) :=
  have h1 : s.KeepsLaws (s.modStore fun u => { u with workCommitted := u.workCommitted.set p.val s.wears[p.val].capture }) :=
    .of_store rfl fun ⟨_, hi, hw, hj⟩ => ⟨hi, hw, hj⟩
  h1.trans (State.beginSave_keepsLaws _ cause)

/-- A SETTINGS-SAVE takes the live ring margins, which the law bounds. -/
theorem handleSettingsSave_keepsLaws : handleSettingsSave.KeepsLaws := withBody_keepsLaws fun _ s => by
  split
  · exact .refl s
  · refine .trans ?_ (State.beginSave_keepsLaws _ _)
    refine .of_store rfl fun ⟨hh, hi, _, hj⟩ => ⟨hi, fun h => ?_, hj⟩
    simpa [State.liveConfig] using (hh h).1

theorem handleWearCommit_keepsLaws : handleWearCommit.KeepsLaws := withBody_keepsLaws <| withPlaten_keepsLaws fun p s => by
  split
  · exact .refl s
  · exact s.commit_keepsLaws p _

theorem handleWearRetire_keepsLaws : handleWearRetire.KeepsLaws := withBody_keepsLaws <| withPlaten_keepsLaws fun p s => by
  split
  · exact .refl s
  · refine (s.commit_keepsLaws p (.wearRetire p)).trans (b := s.commit p (.wearRetire p)) ?_
    exact .of_same rfl rfl

theorem handleRestart_keepsLaws : handleRestart.KeepsLaws := withBody_keepsLaws fun _ s => by
  split
  · exact .of_same rfl rfl
  · exact .refl s

/-! #### Dispatch -/

/-- A request that only answers. -/
theorem withBody_answer_keepsLaws {α : Type} {parse : List Byte → Option α} {r : α → State → Response} :
    Handler.KeepsLaws (withBody parse fun q s => (r q s, s)) := withBody_keepsLaws fun _ s => .refl s

/-- Every block that owns a request kind keeps the laws. -/
theorem handlerOf_keepsLaws (kind : Byte) : Handler.KeepsLaws ((handlerOf kind).getD handleUnknown) := by
  have readIx : ∀ (k : Nat) (r : Fin k → State → Response), Handler.KeepsLaws (withBody parseOne <| withIx k fun i s => (r i s, s)) :=
    fun _ _ => withBody_keepsLaws <| withIx_keepsLaws fun _ s => .refl s
  have readPlaten : ∀ r : PlatenIx → State → Response, Handler.KeepsLaws (withBody parseOne <| withPlaten fun p s => (r p s, s)) :=
    fun _ => withBody_keepsLaws <| withPlaten_keepsLaws fun _ s => .refl s
  unfold handlerOf
  split
  exacts [withBody_answer_keepsLaws, withBody_answer_keepsLaws, handleRestart_keepsLaws, handleSettingsSave_keepsLaws,
    handleStepLoad_keepsLaws, handleHeadStart_keepsLaws,
    withBody_keepsLaws <| withIx_keepsLaws fun h s => s.haltHead_keepsLaws h _ _ _, handleHeadResume_keepsLaws,
    handleHeadFlush_keepsLaws, handleHeadStandby_keepsLaws, handleTrimSet_keepsLaws, handleHeadLimits_keepsLaws, readIx 4 _,
    handleZoneCal_keepsLaws, handlePlatenMode_keepsLaws, handlePlatenConfig_keepsLaws, readPlaten _, handleDoseSubmit_keepsLaws,
    handleDoseCancel_keepsLaws, readIx 64 _, handleDoseRelease_keepsLaws, handleLineConfig_keepsLaws,
    withBody_keepsLaws <| withIx_keepsLaws fun l s => s.openLine_keepsLaws l, handleLineTeardown_keepsLaws,
    handleLinePrime_keepsLaws, readIx 4 _, handleCondProfile_keepsLaws, handleCondRun_keepsLaws, handleCondStop_keepsLaws,
    handlePadChange_keepsLaws, handleWearSet_keepsLaws, readPlaten _, handleWearCommit_keepsLaws,
    withBody_keepsLaws <| withPlaten_keepsLaws fun p s => .of_same rfl rfl, handleWearRetire_keepsLaws,
    handleWatchDefine_keepsLaws, handleWatchArm_keepsLaws, handleWatchDisarm_keepsLaws, handleWatchExchange_keepsLaws,
    readIx 16 _, withBody_answer_keepsLaws, handleInputCal_keepsLaws, handleSourceRead_keepsLaws, handleMonitorRoute_keepsLaws,
    handleTraceSet_keepsLaws, handleIndexRequest_keepsLaws, handleIndexCancel_keepsLaws, handleIndexResync_keepsLaws,
    withBody_answer_keepsLaws, fun _ s => .refl s]

theorem arrive_keepsLaws (kind tag : Byte) (body : List Byte) (f : Handler) (hf : f.KeepsLaws) (s : State) :
    s.KeepsLaws (arrive kind tag body f s) := by
  have link : ∀ (u : State) (g : Link → Link), u.KeepsLaws (u.modLink g) := fun _ _ => .of_same rfl rfl
  unfold arrive
  split
  · exact ((link s _).trans (hf body _)).trans (link _ _)
  · split
    · exact .refl s
    · exact link s _

theorem State.dispatch_keepsLaws (s : State) (kind tag : Byte) (body : List Byte) : s.KeepsLaws (s.dispatch kind tag body) :=
  arrive_keepsLaws kind tag body _ (handlerOf_keepsLaws kind) s

/-- A request is what dispatch makes of its frame (R182). -/
theorem exec_request (c : Instr) (s : State) (kind tag : Byte) (body : List Byte) (h : c.request = some (kind, tag, body)) :
    exec c s = .next (s.dispatch kind tag body) := by
  cases c <;> cases h <;> rfl

end Sys2Proof.Machine
end

section
namespace Sys2Proof.Machine

/-! ### Events under the pressure laws -/

theorem State.reach_keepsLaws (s : State) (t : Nat) : s.KeepsLaws (s.reach t) := .of_same rfl rfl

theorem State.whenRunning_keepsLaws (s : State) (f : State → State) (hf : s.KeepsLaws (f s)) : s.KeepsLaws (s.whenRunning f) := by
  unfold State.whenRunning
  split
  · exact hf
  · exact .refl s

/-! #### Timers of heads and zones -/

/-- An expiry of the update timer is a computation (R33). -/
theorem State.updateExpires_keepsLaws (s : State) (h : HeadIx) : s.KeepsLaws (s.updateExpires h) := by
  unfold State.updateExpires
  split
  · exact .refl s
  · next t _ =>
    refine (s.reach_keepsLaws t).trans (State.modHead_keepsLaws _ h _ ?_)
    have c : s.heads[h.val].KeepsLaws (s.heads[h.val].compute (s.reach t).now) := .of_compute rfl rfl
    exact ⟨c.range, c.margin⟩

/-- The start of a settle period leaves the commands. -/
theorem State.startSettle_keepsLaws (s : State) (h : HeadIx) (now : Nat) : s.KeepsLaws (s.modHead h fun d => d.startSettle now) := by
  refine s.modHead_keepsLaws h _ (.of_same (fun z => ?_) (Head.startSettle_limits _ _) fun c => by rwa [Head.startSettle_state] at c)
  obtain ⟨x, hx⟩ := s.heads[h.val].startSettle_zone now z
  rw [hx]

theorem State.rampEnds_keepsLaws (s : State) (h : HeadIx) : s.KeepsLaws (s.rampEnds h) := by
  unfold State.rampEnds
  dsimp only
  split
  · exact (s.reach_keepsLaws _).trans (State.startSettle_keepsLaws _ h _)
  · exact .refl s

theorem State.settleExpires_keepsLaws (s : State) (h : HeadIx) : s.KeepsLaws (s.settleExpires h) := by
  unfold State.settleExpires
  dsimp only
  split
  · exact (s.reach_keepsLaws _).trans (State.modHead_keepsLaws_of_zones _ h (fun d => { d with supervision := .testing }) rfl rfl id)
  · exact .refl s

theorem State.windowEnds_keepsLaws (s : State) (h : HeadIx) (z : ZoneIx) : s.KeepsLaws (s.windowEnds h z) := by
  unfold State.windowEnds
  split
  · exact .refl s
  · refine (s.reach_keepsLaws _).trans (State.modHead_keepsLaws _ h _ (.of_same (fun k => ?_) rfl id))
    rw [Head.modZone_zones, get_set]
    split
    · next e =>
      rw [e]
      unfold Zone.endWindow
      dsimp only
      split <;> rfl
    · rfl

theorem State.leadExpires_keepsLaws (s : State) (h : HeadIx) : s.KeepsLaws (s.leadExpires h) := by
  unfold State.leadExpires
  dsimp only
  split
  · exact (s.reach_keepsLaws _).trans (State.enterPressing_keepsLaws _ h)
  · exact .refl s

theorem State.limitReached_keepsLaws (s : State) (h : HeadIx) : s.KeepsLaws (s.limitReached h) := by
  unfold State.limitReached
  dsimp only
  split
  · next t hs _ =>
    have hc : s.heads[h.val].state.computes = true := by rw [hs]; rfl
    refine (s.reach_keepsLaws (s.heads[h.val].pressStart + t.timeLimit)).trans ?_
    split
    · exact State.endAndSucceed_keepsLaws _ h _ hc
    · split
      · exact State.haltHead_keepsLaws _ h _ _ _
      · exact State.endAndSucceed_keepsLaws _ h _ hc
  · exact .refl s

theorem State.overpolishExpires_keepsLaws (s : State) (h : HeadIx) : s.KeepsLaws (s.overpolishExpires h) := by
  unfold State.overpolishExpires
  dsimp only
  split
  · next t hs _ =>
    have hc : s.heads[h.val].state.computes = true := by rw [hs]; rfl
    exact (s.reach_keepsLaws _).trans (State.endAndSucceed_keepsLaws (s.reach _) h _ hc)
  · exact .refl s

theorem State.starveExpires_keepsLaws (s : State) (h : HeadIx) : s.KeepsLaws (s.starveExpires h) := by
  unfold State.starveExpires
  dsimp only
  split
  · exact (s.reach_keepsLaws _).trans (State.starveEnd_keepsLaws _ h)
  · exact .refl s

/-! #### The end of a release -/

/-- A release ends with every command at 0 (R33). -/
theorem State.releaseEnd_range (s : State) (h : HeadIx) (hs : s.CommandsInRange) : (s.releaseEnd h).CommandsInRange := by
  have h1 : ((s.toStandby h).modHead h fun d => { d.zeroCommands with updateDue := none }).CommandsInRange := fun k z => by
    by_cases e : k = h
    · subst e
      have := zoneMax_nonneg z
      simpa [Head.zeroCommands] using this
    · rw [State.modHead_get_ne _ _ _ _ e]
      exact (s.toStandby_keepsLaws h).range hs k z
  unfold State.releaseEnd
  dsimp only
  split
  · exact (State.enterArmed_keepsLaws _ h).range h1
  · exact (State.enterIdle_keepsLaws _ h).range h1

/-- A head whose slots agree with its state leaves RELEASING, so that the stages no longer apply to its commands of 0 (R21). -/
theorem State.releaseEnd_keepsLaws (s : State) (h : HeadIx) (hw : s.heads[h.val].WellKept) : s.KeepsLaws (s.releaseEnd h) := by
  have leaves : ∀ f : Head → Head, (∀ d, (f d).zones = d.zones) → (∀ d, (f d).limits = d.limits) → (∀ d, (f d).state.computes = false) →
      s.KeepsLaws (((s.toStandby h).modHead h fun d => { d.zeroCommands with updateDue := none }).modHead h f) := fun f hz hl hc => by
    refine .of_only (((s.setModes_only h _).trans (State.modHead_only _ h _)).trans (State.modHead_only _ h f)) ?_ rfl
    refine .of_zero (fun z => ?_) ?_ ?_ <;> rw [State.modHead_get]
    · rw [hz]; simp [Head.zeroCommands]
    · rw [hl]; simp [Head.zeroCommands, State.toStandby, State.setModes]
    · exact hc _
  unfold State.releaseEnd
  dsimp only
  split
  · next hcur =>
    obtain ⟨_, loaded, _⟩ := hw
    obtain ⟨t, rest, e⟩ := List.exists_cons_of_ne_nil (loaded hcur)
    refine (leaves _ ?_ ?_ ?_).trans (State.enterArmed_of_step _ h t ?_)
    · exact fun _ => rfl
    · exact fun _ => rfl
    · exact fun _ => rfl
    · simp [Head.step, Head.zeroCommands, State.toStandby, State.setModes, hcur, e]
  · exact (leaves (fun d => { d with state := .idle, snapshot := [] }) (fun _ => rfl) (fun _ => rfl) fun _ => rfl).trans
      (State.testReady_keepsLaws _)

/-! #### Doses and lines -/

theorem State.openingEnds_keepsLaws (s : State) (r : RecIx) : s.KeepsLaws (s.openingEnds r) := by
  unfold State.openingEnds
  split
  · refine .trans ?_ (State.tellFlowing_keepsLaws _ r)
    exact .of_same rfl rfl
  · exact .refl s

theorem State.meter_keepsLaws (s : State) (r : RecIx) (n : Nat) : s.KeepsLaws (s.meter r n) := .of_same rfl rfl

theorem State.meterTick_keepsLaws (s : State) (r : RecIx) : s.KeepsLaws (s.meterTick r) := by
  unfold State.meterTick
  dsimp only
  split
  · exact s.meter_keepsLaws r 1
  · exact .refl s

theorem State.nextSegment_keepsLaws (s : State) (r : RecIx) : s.KeepsLaws (s.nextSegment r) := by
  unfold State.nextSegment
  dsimp only
  split
  · exact .of_same rfl rfl
  · exact s.close_keepsLaws r _

theorem State.segmentEnds_keepsLaws (s : State) (r : RecIx) : s.KeepsLaws (s.segmentEnds r) := by
  unfold State.segmentEnds
  dsimp only
  split
  · split
    · exact (s.meter_keepsLaws r _).trans (State.nextSegment_keepsLaws _ r)
    · split
      · exact (s.meter_keepsLaws r _).trans (State.close_keepsLaws _ r _)
      · exact (s.meter_keepsLaws r _).trans (State.nextSegment_keepsLaws _ r)
  · exact .refl s

theorem State.capReached_keepsLaws (s : State) (r : RecIx) : s.KeepsLaws (s.capReached r) := by
  unfold State.capReached
  dsimp only
  split
  · split
    · exact (s.meter_keepsLaws r _).trans (State.close_keepsLaws _ r _)
    · split
      · exact (s.meter_keepsLaws r _).trans (State.close_keepsLaws _ r _)
      · exact .refl s
  · exact .refl s

theorem State.closingEnds_keepsLaws (s : State) (r : RecIx) : s.KeepsLaws (s.closingEnds r) := by
  unfold State.closingEnds
  split
  · exact (s.reach_keepsLaws _).trans (State.closingEnd_keepsLaws _ r)
  · exact .refl s

theorem State.endPriming_keepsLaws (s : State) (l : LineIx) : s.KeepsLaws (s.endPriming l) := (s.endPriming_keeps l).keepsLaws

theorem State.primeExpires_keepsLaws (s : State) (l : LineIx) : s.KeepsLaws (s.primeExpires l) := by
  unfold State.primeExpires
  split
  · exact ((s.reach_keepsLaws _).trans (State.endPriming_keepsLaws _ l)).trans (State.attempt_keepsLaws _ l)
  · exact .refl s

/-! #### Conditioners, the carousel and the link -/

theorem State.loweringEnds_keepsLaws (s : State) (p : PlatenIx) : s.KeepsLaws (s.loweringEnds p) := by
  unfold State.loweringEnds
  split
  · exact .of_same rfl rfl
  · exact .refl s

theorem State.testLifted_keepsLaws (s : State) : s.KeepsLaws s.testLifted := .of_same s.testLifted_heads s.testLifted_keepsPool.store

theorem State.raisingEnds_keepsLaws (s : State) (p : PlatenIx) : s.KeepsLaws (s.raisingEnds p) := by
  unfold State.raisingEnds
  dsimp only
  split
  · refine State.KeepsLaws.trans ?_ (.trans (State.testLifted_keepsLaws (((s.reach (s.conds[p.val].entered + Config.armTime)).modCond p
      fun c => { c with arm := .stowed }).post (.condEnd p s.conds[p.val].endReason s.conds[p.val].sweeps s.conds[p.val].segment
        s.conds[p.val].learned !s.conds[p.val].unheld))) ?_)
    · exact .of_same rfl rfl
    · split
      · exact .refl _
      · exact .of_same rfl rfl
  · exact .refl s

theorem State.learn_keepsLaws (s : State) (p : PlatenIx) : s.KeepsLaws (s.learn p) := by
  unfold State.learn
  dsimp only
  split
  · split <;> exact .of_same rfl rfl
  · exact .refl s

theorem State.dwellEnds_keepsLaws (s : State) (p : PlatenIx) : s.KeepsLaws (s.dwellEnds p) := by
  unfold State.dwellEnds
  dsimp only
  split
  · refine ((s.reach_keepsLaws (s.conds[p.val].entered + s.conds[p.val].dwell)).trans (State.learn_keepsLaws _ p)).trans ?_
    split
    · exact .of_same rfl rfl
    · split <;> exact .of_same rfl rfl
  · exact .refl s

theorem State.entryStale_keepsLaws (s : State) (p : PlatenIx) (g : SegIx) : s.KeepsLaws (s.entryStale p g) := by
  unfold State.entryStale
  split
  · exact .refl s
  · exact .of_same rfl rfl

theorem State.lifeTick_keepsLaws (s : State) (p : PlatenIx) : s.KeepsLaws (s.lifeTick p) := by
  unfold State.lifeTick
  split
  · exact .refl s
  · exact .of_same rfl rfl

theorem State.blankExpires_keepsLaws (s : State) (w : WatchIx) : s.KeepsLaws (s.blankExpires w) := by
  unfold State.blankExpires
  dsimp only
  split
  · exact .of_same rfl rfl
  · exact .refl s

theorem State.traceExpires_keepsLaws (s : State) : s.KeepsLaws s.traceExpires := by
  unfold State.traceExpires
  split
  · exact .refl s
  · exact .refl s
  · dsimp only
    split <;> exact .of_same rfl rfl

theorem State.liftExpires_keepsLaws (s : State) : s.KeepsLaws s.liftExpires := by
  unfold State.liftExpires
  split
  · refine .trans ?_ (State.testLifted_keepsLaws _)
    exact .of_same rfl rfl
  · exact .refl s

theorem State.indexExpires_keepsLaws (s : State) : s.KeepsLaws s.indexExpires := by
  unfold State.indexExpires
  split
  · exact .of_same rfl rfl
  · exact .refl s

theorem State.arriveAt_keepsLaws (s : State) (pos : Station) : s.KeepsLaws (s.arriveAt pos) := by
  unfold State.arriveAt
  dsimp only
  split
  · refine State.KeepsLaws.trans ?_ (forEach_keepsLaws _ _ (fun h s => s.tellIndexDone_keepsLaws h) _)
    exact .of_same rfl rfl
  · exact .of_same rfl rfl

theorem State.wirePosition_keepsLaws (s : State) (level : Bool) (pos : Station) : s.KeepsLaws (s.wirePosition level pos) := by
  have h1 : s.KeepsLaws { s with inPosition := level, pos := pos } := .of_same rfl rfl
  unfold State.wirePosition
  dsimp only
  split
  · refine h1.trans ?_
    unfold State.inPositionMoves
    split
    · split
      · exact .of_same rfl rfl
      · exact State.arriveAt_keepsLaws _ pos
      · exact .refl _
    · exact .refl _
  · exact h1

theorem State.frameEnds_keepsLaws (s : State) : s.KeepsLaws s.frameEnds := by
  unfold State.frameEnds
  split
  · exact .refl s
  · dsimp only
    split <;> exact .of_same rfl rfl

/-- A scan of received bytes dispatches whole frames, each of which keeps the laws. -/
theorem State.scan_keepsLaws (expired : Bool) (fuel : Nat) (bytes : List RxByte) (s : State) :
    s.KeepsLaws (State.scan expired fuel bytes s) := by
  induction fuel generalizing bytes s with
  | zero => exact .of_same rfl rfl
  | succ n ih =>
    unfold State.scan
    split
    · exact .of_same rfl rfl
    · split
      · exact .of_same rfl rfl
      · exact ih _ s
      · split
        · exact (s.dispatch_keepsLaws _ _ _).trans (ih _ _)
        · exact ih _ s

theorem State.takeByte_keepsLaws (s : State) (b : Byte) : s.KeepsLaws (s.takeByte b) :=
  (State.scan_keepsLaws false _ _ s).trans (State.scan_keepsLaws false _ _ _)

theorem State.gapExpires_keepsLaws (s : State) : s.KeepsLaws s.gapExpires := by
  unfold State.gapExpires
  split
  · exact .refl s
  · exact (s.reach_keepsLaws _).trans (State.scan_keepsLaws true _ _ _)

/-! #### Saves, start-up and STOP -/

/-- The write of a save puts the margins it captured into the image. -/
theorem State.writeEnds_keepsLaws (s : State) : s.KeepsLaws s.writeEnds := by
  unfold State.writeEnds
  split
  · next job e =>
    dsimp only
    split
    · exact .of_store rfl fun ⟨_, _, hw, hj⟩ => ⟨hj job e, hw, fun _ k => by cases k⟩
    · exact .of_store rfl fun ⟨_, _, hw, hj⟩ => ⟨hj job e, hw, fun _ k => by cases k⟩
  · exact .refl s

/-- Blocks at their power-on values have commands of 0 and the margins of the rows they take. -/
theorem State.powerOnBlocks_heads (s : State) (c : ConfigRows) (m : Vector Committed 3) :
    (s.powerOnBlocks c m).CommandsInRange
      ∧ (c.MarginsInRange → ∀ h : HeadIx, (s.powerOnBlocks c m).heads[h.val].MarginHolds) := by
  constructor
  · intro h z
    have := zoneMax_nonneg z
    simpa [State.powerOnBlocks, Head.powerOn, Zone.powerOn] using this
  · intro hc h
    refine ⟨?_, fun k => ?_⟩
    · simpa [State.powerOnBlocks, Head.powerOn] using hc h
    · simp [State.powerOnBlocks, Head.powerOn, HeadState.computes] at k

theorem ConfigRows.default_marginsInRange : ConfigRows.default.MarginsInRange := fun h => by
  simp [ConfigRows.default, HeadLimits.default]

theorem State.beginStartup_keepsLaws (s : State) (cause : StartCause) : s.KeepsLaws (s.beginStartup cause) := by
  have hp := s.powerOnBlocks_heads ConfigRows.default (Vector.replicate 3 Committed.default)
  exact ⟨fun _ => hp.1, fun ⟨_, hi, _, _⟩ =>
    ⟨hp.2 ConfigRows.default_marginsInRange, hi, ConfigRows.default_marginsInRange, fun _ k => by cases k⟩⟩

/-- The rows an image loads have their margins in range, and so have the defaults. -/
theorem State.loadImage_keepsLaws (s : State) : s.KeepsLaws s.loadImage := by
  have hp := s.powerOnBlocks_heads (if s.store.image.loads then s.store.image.config else ConfigRows.default)
    (if s.store.image.loads then s.store.image.committed else Vector.replicate 3 Committed.default)
  refine ⟨fun _ => hp.1, fun ⟨_, hi, _, _⟩ => ?_⟩
  have hc : (if s.store.image.loads then s.store.image.config else ConfigRows.default).MarginsInRange := by
    split
    · exact hi
    · exact ConfigRows.default_marginsInRange
  exact ⟨hp.2 hc, hi, hc, fun _ k => by cases k⟩

theorem State.beginWindows_keepsLaws (s : State) : s.KeepsLaws s.beginWindows :=
  forEach_keepsLaws _ _ (fun h s => s.mapZones_keepsLaws h (fun z c => { c with window := some ⟨s.now, s.processed h z⟩ })
    fun _ _ => rfl) s

theorem State.takeStop_keepsLaws (x : StopTaker) (s : State) : s.KeepsLaws (s.takeStop x) := by
  unfold State.takeStop
  split
  · exact s.post_keepsLaws _
  · exact s.haltHead_keepsLaws _ _ _ _
  · exact forEach_keepsLaws _ _ (fun r s => s.closeAndTell_keepsLaws r _) s
  · split
    · exact s.endPriming_keepsLaws _
    · exact .refl s
  · exact .of_same rfl rfl
  · split
    · exact .of_same rfl rfl
    · exact .of_same rfl rfl
    · exact .of_same rfl rfl
    · exact .refl s

theorem State.assertStop_keepsLaws (s : State) (order : List StopTaker) : s.KeepsLaws (s.assertStop order) := by
  have h1 : s.KeepsLaws { s with stop := true } := .of_same rfl rfl
  unfold State.assertStop
  split
  · exact .refl s
  · dsimp only
    split
    · exact h1.trans (forEach_keepsLaws _ _ State.takeStop_keepsLaws _)
    · exact h1

theorem State.releaseStop_keepsLaws (s : State) : s.KeepsLaws s.releaseStop := by
  have h1 : s.KeepsLaws { s with stop := false } := .of_same rfl rfl
  unfold State.releaseStop
  split
  · dsimp only
    split
    · exact (h1.trans (State.post_keepsLaws _ _)).trans (forEach_keepsLaws _ _ (fun l s => s.attempt_keepsLaws l) _)
    · exact h1
  · exact .refl s

theorem State.readEnds_keepsLaws (s : State) (order : List StopTaker) : s.KeepsLaws (s.readEnds order) := by
  unfold State.readEnds
  split
  · next cause since _ =>
    have h1 := (s.reach_keepsLaws (since + Config.readTime)).trans (State.loadImage_keepsLaws _)
    have started : ∀ (u : State) (n : Notice), u.heads = (s.reach (since + Config.readTime)).loadImage.heads →
        u.store = (s.reach (since + Config.readTime)).loadImage.store → s.KeepsLaws (u.beginWindows.post n) := fun u n hh hs =>
      ((h1.trans (.of_same hh hs)).trans u.beginWindows_keepsLaws).trans (State.post_keepsLaws _ n)
    dsimp only
    split
    · refine State.KeepsLaws.trans ?_ (forEach_keepsLaws _ _ State.takeStop_keepsLaws _)
      exact started _ _ rfl rfl
    · exact started _ _ rfl rfl
  · exact .refl s

/-! ### Every command keeps the pressure laws -/

/-- A command other than the end of a release keeps both laws. -/
theorem exec_keepsLaws (c : Instr) (s t : State) (h : exec c s = .next t) (hr : ∀ k, c ≠ .releaseTimeExpiry k) : s.KeepsLaws t := by
  cases hq : c.request with
  | some q =>
    rw [exec_request c s q.1 q.2.1 q.2.2 hq] at h
    cases h
    exact s.dispatch_keepsLaws _ _ _
  | none =>
    cases c with
    | unknownKind kind tag body => cases h; exact s.dispatch_keepsLaws _ _ _
    | frameDiscard b | byteArrival b =>
      cases h
      split
      · exact .refl s
      · exact s.takeByte_keepsLaws b
    | receiveGapTimeout => cases h; exact s.gapExpires_keepsLaws
    | frameSent => cases h; exact s.whenRunning_keepsLaws _ s.frameEnds_keepsLaws
    | powerOn => cases h; exact s.beginStartup_keepsLaws .powerOn
    | powerLoss =>
      cases h
      refine (s.beginStartup_keepsLaws .powerOn).trans ?_
      exact .of_same rfl rfl
    | startupReadEnd order => cases h; exact s.readEnds_keepsLaws order
    | restartTakesPlace =>
      cases h
      refine s.whenRunning_keepsLaws _ ?_
      split
      · exact s.beginStartup_keepsLaws .restart
      · exact .refl s
    | saveWriteEnd => cases h; exact s.whenRunning_keepsLaws _ s.writeEnds_keepsLaws
    | stopAssert order => cases h; exact s.assertStop_keepsLaws order
    | stopRelease => cases h; exact s.releaseStop_keepsLaws
    | inPositionChange level pos => cases h; exact s.wirePosition_keepsLaws level pos
    | liftTimerExpiry => cases h; exact s.whenRunning_keepsLaws _ s.liftExpires_keepsLaws
    | indexTimerExpiry => cases h; exact s.whenRunning_keepsLaws _ s.indexExpires_keepsLaws
    | headUpdateTimer k => cases h; exact s.whenRunning_keepsLaws _ (s.updateExpires_keepsLaws k)
    | rampEnd k => cases h; exact s.whenRunning_keepsLaws _ (s.rampEnds_keepsLaws k)
    | settleTimeExpiry k => cases h; exact s.whenRunning_keepsLaws _ (s.settleExpires_keepsLaws k)
    | leadTimeExpiry k => cases h; exact s.whenRunning_keepsLaws _ (s.leadExpires_keepsLaws k)
    | stepTimeLimit k => cases h; exact s.whenRunning_keepsLaws _ (s.limitReached_keepsLaws k)
    | overpolishExpiry k => cases h; exact s.whenRunning_keepsLaws _ (s.overpolishExpires_keepsLaws k)
    | starveLimitExpiry k => cases h; exact s.whenRunning_keepsLaws _ (s.starveExpires_keepsLaws k)
    | releaseTimeExpiry k => exact absurd rfl (hr k)
    | autoZeroWindowEnd k z => cases h; exact s.whenRunning_keepsLaws _ (s.windowEnds_keepsLaws k z)
    | sourceSample src raw order => cases h; exact s.whenRunning_keepsLaws _ (s.sample_keepsLaws src _ order)
    | blankTimeExpiry w => cases h; exact s.whenRunning_keepsLaws _ (s.blankExpires_keepsLaws w)
    | traceTimerExpiry => cases h; exact s.whenRunning_keepsLaws _ s.traceExpires_keepsLaws
    | doseOpeningEnd r => cases h; exact s.whenRunning_keepsLaws _ (s.openingEnds_keepsLaws r)
    | doseMeterTick r => cases h; exact s.whenRunning_keepsLaws _ (s.meterTick_keepsLaws r)
    | doseSegmentEnd r => cases h; exact s.whenRunning_keepsLaws _ (s.segmentEnds_keepsLaws r)
    | doseCapReached r => cases h; exact s.whenRunning_keepsLaws _ (s.capReached_keepsLaws r)
    | doseClosingEnd r => cases h; exact s.whenRunning_keepsLaws _ (s.closingEnds_keepsLaws r)
    | primeTimerExpiry l => cases h; exact s.whenRunning_keepsLaws _ (s.primeExpires_keepsLaws l)
    | condLoweringEnd p => cases h; exact s.whenRunning_keepsLaws _ (s.loweringEnds_keepsLaws p)
    | condRaisingEnd p => cases h; exact s.whenRunning_keepsLaws _ (s.raisingEnds_keepsLaws p)
    | condDwellEnd p => cases h; exact s.whenRunning_keepsLaws _ (s.dwellEnds_keepsLaws p)
    | learnedEntryStale p g => cases h; exact s.whenRunning_keepsLaws _ (s.entryStale_keepsLaws p g)
    | padLifeTick p => cases h; exact s.whenRunning_keepsLaws _ (s.lifeTick_keepsLaws p)
    | _ => cases hq

theorem exec_commandsInRange (c : Instr) (s t : State) (h : exec c s = .next t) (hs : s.CommandsInRange) : t.CommandsInRange := by
  by_cases hr : ∀ k, c ≠ .releaseTimeExpiry k
  · exact (exec_keepsLaws c s t h hr).range hs
  · push Not at hr
    obtain ⟨k, rfl⟩ := hr
    cases h
    unfold State.whenRunning State.releaseExpires
    dsimp only
    split
    · split
      · exact State.releaseEnd_range _ k hs
      · exact hs
    · exact hs

theorem exec_marginLaw (c : Instr) (s t : State) (h : exec c s = .next t) (hw : s.HeadsWellKept) (hs : s.MarginLaw) : t.MarginLaw := by
  by_cases hr : ∀ k, c ≠ .releaseTimeExpiry k
  · exact (exec_keepsLaws c s t h hr).margin hs
  · push Not at hr
    obtain ⟨k, rfl⟩ := hr
    cases h
    refine (s.whenRunning_keepsLaws _ ?_).margin hs
    unfold State.releaseExpires
    dsimp only
    split
    · exact (s.reach_keepsLaws _).trans (State.releaseEnd_keepsLaws _ k (hw k))
    · exact .refl s

/-- Settles O35: every command of a zone comes from a computation, which clamps it, from a reset to 0, or from before. -/
theorem commandRangeIsKept : Obligations.CommandRangeIsKept := fun s t hs h =>
  step_keeps (P := State.CommandsInRange) (fun _ _ k => k) (fun _ k => k) exec_commandsInRange s t h hs

/-- Settles O36: the stages begin to apply with a computation and are left before the commands go to 0; where a release ends, that a
current step is a loaded one takes the head to ARMED. -/
theorem lawOfMarginIsKept : Obligations.LawOfMarginIsKept := fun s t hs hw h => by
  unfold step at h
  split at h
  · cases h
    exact hs
  · exact exec_marginLaw _ _ t h hw hs

end Sys2Proof.Machine
end

section
/-! Zones: the regulator's calibration line, the ramp and the ring margin (R34, R38, R40). -/

namespace Sys2Proof.Machine

/-! ### Rounding and clamping -/

/-- The rounded quotient is the nearest one, and a tie goes away from zero (00_scope.md, 4.4). -/
theorem roundDiv_isNearest (n : Int) {d : Nat} (hd : 0 < d) : IsNearest n d (roundDiv n d) := by
  rcases Nat.lt_or_eq_of_le (roundDiv_error n hd) with lt | tie
  · exact .inl lt
  · refine .inr ⟨tie, ?_⟩
    have hq := Nat.div_add_mod (2 * n.natAbs + d) (2 * d)
    have hr := Nat.mod_lt (2 * n.natAbs + d) (show 0 < 2 * d by omega)
    -- A quotient whose product falls short of `n` by half a divisor would leave a whole divisor over.
    rcases Int.lt_or_le n 0 with hn | hn
    · rw [roundDiv_of_neg hn] at tie ⊢
      generalize (2 * n.natAbs + d) / (2 * d) = q at *
      have hp : 2 * d * q = 2 * (q * d) := by ring
      have hc : ((q : Int) * d) = ((q * d : Nat) : Int) := by push_cast; rfl
      rw [Int.neg_mul, hc] at tie ⊢
      omega
    · rw [roundDiv_of_nonneg hn] at tie ⊢
      generalize (2 * n.natAbs + d) / (2 * d) = q at *
      have hp : 2 * d * q = 2 * (q * d) := by ring
      have hc : ((q : Int) * d) = ((q * d : Nat) : Int) := by push_cast; rfl
      rw [hc] at tie ⊢
      omega

/-- The code of a command is its place on the calibration line, clamped to 0 to 4095 (R40). -/
theorem ZoneCal.codeOf_eq (c : ZoneCal) (p : Nat) :
    (c.codeOf p : Int)
      = max 0 (min 4095 (c.cLo + roundDiv (((p : Int) - c.pLo) * ((c.cHi : Int) - c.cLo)) (c.pHi - c.pLo))) := by
  unfold ZoneCal.codeOf
  rw [clampInt_eq (by decide)]
  omega

/-- Settles O30: stage 5 rounds to nearest, and a computation codes each command by its zone's calibration. -/
theorem regulatorCodeFollowsTheCalibration : Obligations.RegulatorCodeFollowsTheCalibration := by
  refine ⟨fun c p h => ⟨_, roundDiv_isNearest _ (by omega), c.codeOf_eq p⟩, fun d now z => ?_, fun _ => rfl⟩
  obtain ⟨x, y, e⟩ := d.compute_zone now z
  rw [e]

/-! ### The ramp -/

theorem rampValue_of_le (start target : Int) {time elapsed : Nat} (h : time ≤ elapsed) :
    rampValue start target time elapsed = target := if_pos h

theorem rampValue_of_lt (start target : Int) {time elapsed : Nat} (h : elapsed < time) :
    rampValue start target time elapsed = start + ((target - start) * elapsed).tdiv time := if_neg (Nat.not_le.mpr h)

/-- The share of a rise that a ramp has covered lies between nothing and the whole. -/
theorem ramp_share_le {a : Int} (ha : 0 ≤ a) {time elapsed : Nat} (h : elapsed < time) :
    0 ≤ (a * elapsed).tdiv time ∧ (a * elapsed).tdiv time ≤ a := by
  have hp : 0 ≤ a * elapsed := Int.mul_nonneg ha (Int.natCast_nonneg _)
  rw [Int.tdiv_eq_ediv_of_nonneg hp]
  refine ⟨Int.ediv_nonneg hp (Int.natCast_nonneg _), Int.ediv_le_of_le_mul (by omega) ?_⟩
  exact Int.mul_le_mul_of_nonneg_left (by omega) ha

/-- Stage 1 lies between start and target (R34). -/
theorem rampValue_between (start target : Int) (time elapsed : Nat) :
    min start target ≤ rampValue start target time elapsed ∧ rampValue start target time elapsed ≤ max start target := by
  rcases Nat.lt_or_ge elapsed time with h | h
  · rw [rampValue_of_lt _ _ h]
    rcases Int.le_total start target with up | down
    · have := ramp_share_le (a := target - start) (by omega) h
      omega
    · have := ramp_share_le (a := start - target) (by omega) h
      have e : (target - start) * (elapsed : Int) = -((start - target) * elapsed) := by ring
      rw [e, Int.neg_tdiv]
      omega
  · rw [rampValue_of_le _ _ h]
    omega

/-- A rising ramp never turns back. -/
theorem rampValue_mono {start target : Int} (up : start ≤ target) (time : Nat) {elapsed later : Nat} (h : elapsed ≤ later) :
    rampValue start target time elapsed ≤ rampValue start target time later := by
  rcases Nat.lt_or_ge later time with hl | hl
  · rw [rampValue_of_lt _ _ hl, rampValue_of_lt _ _ (by omega)]
    have hp : ∀ n : Nat, 0 ≤ (target - start) * (n : Int) := fun n => Int.mul_nonneg (by omega) (Int.natCast_nonneg _)
    rw [Int.tdiv_eq_ediv_of_nonneg (hp _), Int.tdiv_eq_ediv_of_nonneg (hp _)]
    have := Int.ediv_le_ediv (show (0 : Int) < time by omega)
      (Int.mul_le_mul_of_nonneg_left (show (elapsed : Int) ≤ later by omega) (show 0 ≤ target - start by omega))
    omega
  · rw [rampValue_of_le _ _ hl]
    exact (rampValue_between start target time elapsed).2.trans (by omega)

/-! ### The ring margin -/

/-- The three cases of stage 4 (R38). -/
theorem ringMargin_fits {m r z : Int} (h : z + m ≤ r) : ringMargin m r z = (r, z, false) := if_pos h

theorem ringMargin_raises {m r z : Int} (h : r < z + m) (h' : z + m ≤ 8000) : ringMargin m r z = (z + m, z, true) := by
  rw [ringMargin, if_neg (by omega), if_pos h']

theorem ringMargin_lowers {m r z : Int} (hr : r ≤ 8000) (h : 8000 < z + m) : ringMargin m r z = (8000, 8000 - m, true) := by
  rw [ringMargin, if_neg (by omega), if_neg (by omega)]

/-- Settles O32: the ramp by its share of the way, the margin by its three cases. -/
theorem rampAndRingMarginKeepTheirBounds : Obligations.RampAndRingMarginKeepTheirBounds := by
  refine ⟨fun start target time elapsed => ⟨rampValue_of_le _ _, rampValue_of_lt _ _, (rampValue_between _ _ _ _).1,
    (rampValue_between _ _ _ _).2, fun later h up => rampValue_mono up time h⟩, fun m r z hm hm' hr hr' hz hz' => ?_⟩
  refine ⟨ringMargin_fits, ringMargin_raises, ringMargin_lowers hr', ?_⟩
  rcases Int.lt_or_le r (z + m) with h | h
  · rcases Int.lt_or_le 8000 (z + m) with h' | h'
    · rw [ringMargin_lowers hr' h']
      dsimp only
      omega
    · rw [ringMargin_raises h h']
      dsimp only
      omega
  · rw [ringMargin_fits h]
    dsimp only
    omega

end Sys2Proof.Machine
end

section
/-! Zones: the update timer, the settle period and the auto-zero window (R33 to R45). -/

namespace Sys2Proof.Machine

/-! ### What a computation gives (R33, R36 to R40) -/

/-- The value of a zone after the clamp (R36, R37). -/
theorem Head.stage123_eq (d : Head) (now : Nat) (z : ZoneIx) :
    d.stage123 now z = max 0 (min (if z = 0 then 8000 else 6000)
      (d.stage1 now z + if d.state = .releasing then 0 else d.zones[z.val].trim)) := clampInt_eq (zoneMax_nonneg z) _

theorem Head.stage123_mem (d : Head) (now : Nat) (z : ZoneIx) : 0 ≤ d.stage123 now z ∧ d.stage123 now z ≤ zoneMax z := stage3_mem z _

/-- Within its range a ring margin takes no command below 0, so that the command is the value of the stages. -/
theorem Head.newCommand_eq (d : Head) (now : Nat) (hm : d.limits.ringMargin ≤ 3000) (z : ZoneIx) :
    (d.newCommand now z : Int)
      = if z = 0 then (d.stage4 now).1 else if z = 4 then (d.stage4 now).2.1 else d.stage123 now z := by
  have h := ringMargin_apart (m := d.limits.ringMargin) (r := d.stage123 now 0) (by omega) (by omega) (d.stage123_mem now 4).1
  have hz := (d.stage123_mem now z).1
  unfold Head.newCommand Head.stage4
  split
  · omega
  · split <;> omega

theorem Head.compute_ramp (d : Head) (now : Nat) (z : ZoneIx) : (d.compute now).zones[z.val].ramp = d.stage1 now z := by
  obtain ⟨x, y, h⟩ := d.compute_zone now z
  rw [h]

theorem Head.compute_zone_frame (d : Head) (now : Nat) (z : ZoneIx) :
    (d.compute now).zones[z.val].rampStart = d.zones[z.val].rampStart ∧ (d.compute now).zones[z.val].mode = d.zones[z.val].mode
      ∧ (d.compute now).zones[z.val].trim = d.zones[z.val].trim ∧ (d.compute now).zones[z.val].offset = d.zones[z.val].offset := by
  obtain ⟨x, y, h⟩ := d.compute_zone now z
  rw [h]
  exact ⟨rfl, rfl, rfl, rfl⟩

/-- A head that presses or starves: the stage 1 value, from the targets of its step or held (R33, R34). -/
theorem Head.stage1_of_work (d : Head) (now : Nat) (t : Step) (hw : d.workStep = some t)
    (hs : d.state.isPressing = true ∨ d.state = .starved) (z : ZoneIx) :
    d.stage1 now z = if d.state = .starved then d.zones[z.val].ramp
      else rampValue d.zones[z.val].rampStart t.targets[z.val] t.rampTime (now - d.pressStart) := by
  unfold Head.stage1
  cases e : d.state <;> simp_all [HeadState.isPressing]

/-- Exactly the working states use trims. -/
theorem Head.usesTrims_iff (d : Head) : d.usesTrims = true ↔ d.state.isPressing = true ∨ d.state = .starved := by
  unfold Head.usesTrims
  cases d.state <;> simp [HeadState.isPressing]

/-- Changed trims are those of some zone (R43). -/
theorem Head.trimsChanged_iff (d : Head) : d.trimsChanged = true ↔ ∃ z : ZoneIx, d.zones[z.val].trim ≠ d.zones[z.val].lastTrim := by
  simp only [Head.trimsChanged, List.any_eq_true, bne_iff_ne, Vector.mem_toList_iff, Vector.mem_iff_getElem]
  constructor
  · rintro ⟨_, ⟨i, hi, rfl⟩, ne⟩
    exact ⟨⟨i, hi⟩, ne⟩
  · rintro ⟨z, ne⟩
    exact ⟨_, ⟨z.val, z.isLt, rfl⟩, ne⟩

/-- What no computation changes in a head besides its settings. -/
theorem Head.compute_frame (d : Head) (now : Nat) :
    (d.compute now).steps = d.steps ∧ (d.compute now).pressStart = d.pressStart
      ∧ (d.compute now).marginActive = (d.stage4 now).2.2
      ∧ (d.compute now).marginLimited = (d.marginLimited || ((d.stage4 now).2.2 && d.workStep.isSome)) := by
  rw [Head.compute_eq]
  split
  · unfold Head.startSettle
    split <;> exact ⟨rfl, rfl, rfl, rfl⟩
  · exact ⟨rfl, rfl, rfl, rfl⟩

theorem Head.startSettle_of_zero (d : Head) (now : Nat) (h : d.limits.settleTime = 0) :
    d.startSettle now = { d with supervision := .testing } := if_pos h

theorem Head.startSettle_of_pos (d : Head) (now : Nat) (h : d.limits.settleTime ≠ 0) :
    d.startSettle now = { d.mapZones (fun _ z => { z with deviating := none }) with supervision := .settling now } := if_neg h

/-- A computation without changed trims, in a ramp or in RELEASING is its five stages. -/
theorem Head.compute_of_not_settles (d : Head) (now : Nat)
    (h : d.usesTrims = false ∨ d.trimsChanged = false ∨ d.supervision = .ramping) : d.compute now = d.staged now := by
  rw [Head.compute_eq, if_neg]
  rcases h with h | h | h <;> simp [h]

theorem Head.compute_of_settles (d : Head) (now : Nat) (hu : d.usesTrims = true) (ht : d.trimsChanged = true)
    (hs : d.supervision ≠ .ramping) : d.compute now = (d.staged now).startSettle now := by
  rw [Head.compute_eq, if_pos]
  simp [hu, ht, hs]

/-! ### Timers of a head -/

/-- Two changes of a head that agree on it agree on the state. -/
theorem State.modHead_congr (s : State) (h : HeadIx) {f g : Head → Head} (e : f s.heads[h.val] = g s.heads[h.val]) :
    s.modHead h f = s.modHead h g := by
  unfold State.modHead
  rw [e]

/-- An expiry of the update timer: one computation, and the timer 10 ms on (R33). -/
theorem exec_headUpdateTimer (s : State) (h : HeadIx) (due : Nat) (hr : s.running = true) (hd : s.heads[h.val].updateDue = some due) :
    exec (.headUpdateTimer h) s = .next ((s.reach due).modHead h fun _ =>
      { s.heads[h.val].compute (max s.now due) with updateDue := some (due + 10) }) := by
  change Host.Outcome.next (s.whenRunning (·.updateExpires h)) = _
  rw [s.whenRunning_true _ hr]
  unfold State.updateExpires
  rw [hd]
  rfl

/-- Without a running update timer there is no expiry. -/
theorem exec_headUpdateTimer_of_none (s : State) (h : HeadIx) (hd : s.heads[h.val].updateDue = none) :
    exec (.headUpdateTimer h) s = .next s := by
  change Host.Outcome.next (s.whenRunning (·.updateExpires h)) = _
  have e : s.updateExpires h = s := by
    unfold State.updateExpires
    rw [hd]
  unfold State.whenRunning
  split
  · exact congrArg _ e
  · rfl

/-- The ramp's end begins the settle period of its head (R43). -/
theorem exec_rampEnd (s : State) (h : HeadIx) (t : Step) (hr : s.running = true) (hs : s.heads[h.val].supervision = .ramping)
    (ht : s.heads[h.val].step = some t) :
    exec (.rampEnd h) s = .next ((s.reach (s.heads[h.val].pressStart + t.rampTime)).modHead h fun d =>
      d.startSettle (max s.now (s.heads[h.val].pressStart + t.rampTime))) := by
  change Host.Outcome.next (s.whenRunning (·.rampEnds h)) = _
  rw [s.whenRunning_true _ hr]
  unfold State.rampEnds
  dsimp only
  rw [hs, ht]
  rfl

/-- The settle time's expiry begins the testing (R43). -/
theorem exec_settleTimeExpiry (s : State) (h : HeadIx) (since : Nat) (hr : s.running = true)
    (hs : s.heads[h.val].supervision = .settling since) :
    exec (.settleTimeExpiry h) s = .next ((s.reach (since + s.heads[h.val].limits.settleTime)).modHead h fun d =>
      { d with supervision := .testing }) := by
  change Host.Outcome.next (s.whenRunning (·.settleExpires h)) = _
  rw [s.whenRunning_true _ hr]
  unfold State.settleExpires
  dsimp only
  rw [hs]

/-- In a working state the five stages leave in each zone the trim they used; the figures are those of the computation. -/
theorem Head.staged_of_usesTrims (d : Head) (now : Nat) (t : Step) (hu : d.usesTrims = true) (hw : d.workStep = some t) :
    d.staged now = { d.mapZones fun z c =>
      { c with ramp := (d.compute now).zones[z.val].ramp, command := (d.compute now).zones[z.val].command,
               code := c.cal.codeOf (d.compute now).zones[z.val].command, lastTrim := c.trim } with
      marginActive := (d.stage4 now).2.2, marginLimited := d.marginLimited || (d.stage4 now).2.2 } := by
  simp only [Head.staged, Head.compute_ramp, Head.compute_command, hu, hw, Option.isSome_some, Bool.and_true, if_true]

/-- In RELEASING they leave the trims of the last working computation. -/
theorem Head.staged_of_releasing (d : Head) (now : Nat) (hs : d.state = .releasing) :
    d.staged now = { d.mapZones fun z c =>
      { c with ramp := (d.compute now).zones[z.val].ramp, command := (d.compute now).zones[z.val].command,
               code := c.cal.codeOf (d.compute now).zones[z.val].command } with
      marginActive := (d.stage4 now).2.2, marginLimited := d.marginLimited || ((d.stage4 now).2.2 && d.step.isSome) } := by
  have hw : d.workStep = d.step := by simp [Head.workStep, Head.step, hs]
  have hu : d.usesTrims = false := by simp [Head.usesTrims, hs]
  simp [Head.staged, Head.compute_ramp, Head.compute_command, hu, hw]

/-- Settles O33: an expiry is one computation of the head, whose stages and settle period the lemmas above give. -/
theorem updateTimerComputesTheCommands : Obligations.UpdateTimerComputesTheCommands := by
  intro s h hr d
  refine ⟨fun due t hd hw hm hs => ?_, fun due hd hs hm => ?_, exec_headUpdateTimer_of_none s h, fun t hs ht => ⟨fun hz => ?_, fun hz => ?_⟩,
    fun since hs => exec_settleTimeExpiry s h since hr hs⟩
  · refine ⟨_, exec_headUpdateTimer s h due hr hd, rfl, d.compute_state _, (d.compute_frame _).1, (d.compute_frame _).2.1, ?_⟩
    intro now v k
    have hu : d.usesTrims = true := d.usesTrims_iff.mpr hs
    have hv : ∀ z, d.stage123 now z = v z := fun z => by
      have hn : d.state ≠ .releasing := fun e => by simp [e, HeadState.isPressing] at hs
      rw [d.stage123_eq, d.stage1_of_work now t hw hs, if_neg hn]
    have hk : d.stage4 now = k := by simp only [Head.stage4, hv, k]
    have hstaged := d.staged_of_usesTrims now t hu hw
    obtain ⟨-, -, hma, hml⟩ := d.compute_frame now
    rw [hk] at hstaged hma hml
    refine ⟨fun z => ?_, hma, hml.trans (by simp [hw]), d.compute_zone_frame now, fun hc => ?_, fun hc hn hz => ?_, fun hc hn hz => ?_⟩
    · exact (congrArg Int.ofNat (d.compute_command now z)).trans ((d.newCommand_eq now hm z).trans (by rw [hk, hv]))
    · have e := d.compute_of_not_settles now (.inr (hc.imp_left fun n => by simpa [← d.trimsChanged_iff] using n))
      exact congrArg (fun x : Head => { x with updateDue := some (due + 10) }) (e.trans hstaged)
    · have e := (d.compute_of_settles now hu (d.trimsChanged_iff.mpr hc) hn).trans (Head.startSettle_of_zero _ now hz)
      exact congrArg (fun x : Head => { x with updateDue := some (due + 10) })
        (e.trans (congrArg (fun x : Head => { x with supervision := .testing }) hstaged))
    · have e := (d.compute_of_settles now hu (d.trimsChanged_iff.mpr hc) hn).trans (Head.startSettle_of_pos _ now hz)
      exact congrArg (fun x : Head => { x with updateDue := some (due + 10) })
        (e.trans (congrArg (fun x : Head => { x.mapZones (fun _ c => { c with deviating := none }) with supervision := .settling now })
          hstaged))
  · refine ⟨_, exec_headUpdateTimer s h due hr hd, rfl, ?_⟩
    intro now v k
    have hv : ∀ z, d.stage123 now z = v z := fun z => by
      simp only [d.stage123_eq, Head.stage1, hs, if_true, Int.add_zero, v]
    have hk : d.stage4 now = k := by simp only [Head.stage4, hv, k]
    have hstaged := d.staged_of_releasing now hs
    rw [hk] at hstaged
    refine ⟨fun z => ?_, ?_⟩
    · exact (congrArg Int.ofNat (d.compute_command now z)).trans ((d.newCommand_eq now hm z).trans (by rw [hk, hv]))
    · have e := d.compute_of_not_settles now (.inl (by simp [Head.usesTrims, hs]))
      exact congrArg (fun x : Head => { x with updateDue := some (due + 10) }) (e.trans hstaged)
  · rw [exec_rampEnd s h t hr hs ht]
    exact congrArg Host.Outcome.next (State.modHead_congr _ h (Head.startSettle_of_zero _ _ hz))
  · rw [exec_rampEnd s h t hr hs ht]
    exact congrArg Host.Outcome.next (State.modHead_congr _ h (Head.startSettle_of_pos _ _ hz))

end Sys2Proof.Machine
end

section
/-! Zones: the end of an auto-zero window and ZONE-CAL (R41, R44, R45). -/

namespace Sys2Proof.Machine

/-- A reading that fits the three bands corrects the offset; the next window begins on the reading the new offset gives (R45). -/
theorem Zone.endWindow_fits (z : Zone) (m : HeadLimits) (w : Window) (stop : Nat) (r : Int) (next : Zone → Int)
    (h : r.natAbs ≤ m.captureBand ∧ (r - w.value).natAbs ≤ m.motionBand ∧ (z.offset + r).natAbs ≤ m.apertureBand) :
    z.endWindow m w stop r next
      = { z with offset := z.offset + r, window := some ⟨stop, next { z with offset := z.offset + r }⟩ } := by
  obtain ⟨h1, h2, h3⟩ := h
  simp [Zone.endWindow, h1, h2, h3]

/-- A reading outside one of them sets ZERO-DRIFT and leaves the offset (R45). -/
theorem Zone.endWindow_drifts (z : Zone) (m : HeadLimits) (w : Window) (stop : Nat) (r : Int) (next : Zone → Int)
    (h : ¬ (r.natAbs ≤ m.captureBand ∧ (r - w.value).natAbs ≤ m.motionBand ∧ (z.offset + r).natAbs ≤ m.apertureBand)) :
    z.endWindow m w stop r next = { z with drift := true, window := some ⟨stop, next { z with drift := true }⟩ } := by
  have hb : (r.natAbs ≤ m.captureBand && (r - w.value).natAbs ≤ m.motionBand && (z.offset + r).natAbs ≤ m.apertureBand : Bool) = false := by
    simpa [and_assoc] using h
  unfold Zone.endWindow
  rw [hb]
  rfl

/-- The processed value of a zone, its channel and clamp written out (R168). -/
theorem State.processed_eq (s : State) (h : HeadIx) (z : ZoneIx) :
    s.processed h z
      = max (-2147483648) (min 2147483647 (s.hub.channels[5 * h.val + z.val].scaled - s.heads[h.val].zones[z.val].offset)) :=
  clamp32_eq _

/-- The end of a running window is one evaluation of its zone, at the end of the window (R44). -/
theorem exec_autoZeroWindowEnd (s : State) (h : HeadIx) (z : ZoneIx) (w : Window) (hr : s.running = true)
    (hw : s.heads[h.val].zones[z.val].window = some w) :
    exec (.autoZeroWindowEnd h z) s = .next ((s.reach (w.start + 1000)).modHead h fun d => d.modZone z fun c =>
      c.endWindow d.limits w (max s.now (w.start + 1000)) (s.processed h z) fun c =>
        clamp32 (s.hub.channels[5 * h.val + z.val].scaled - c.offset)) := by
  change Host.Outcome.next (s.whenRunning (·.windowEnds h z)) = _
  rw [s.whenRunning_true _ hr]
  unfold State.windowEnds
  rw [hw]
  rfl

/-- Two changes of a zone that agree on it agree on its head. -/
theorem Head.modZone_congr (d : Head) (z : ZoneIx) {f g : Zone → Zone} (e : f d.zones[z.val] = g d.zones[z.val]) :
    d.modZone z f = d.modZone z g := by
  unfold Head.modZone
  rw [e]

/-- A calibration is taken exactly when its points are in range and in order (R41). -/
theorem ZoneCal.valid_iff (c : ZoneCal) :
    c.valid = true ↔ c.pLo ≤ 8000 ∧ c.pHi ≤ 8000 ∧ c.cLo ≤ 4095 ∧ c.cHi ≤ 4095 ∧ c.pLo < c.pHi := by
  simp [ZoneCal.valid, and_assoc]

/-- ZONE-CAL on a head, a zone or points out of range is refused (R41). -/
theorem handleZoneCal_refuses (body : List Byte) (q : ZoneCalBody) (s : State) (hq : parseZoneCal body = some q)
    (h : 4 ≤ q.head ∨ 5 ≤ q.zone ∨ q.cal.valid = false) : handleZoneCal body s = (.refuse .badValue, s) := by
  unfold handleZoneCal
  rw [withBody_some _ _ _ _ _ hq]
  split
  · next k z hk hz =>
    have hv : q.cal.valid = false := by
      have := toIx_some hk
      have := toIx_some hz
      rcases h with h | h | h
      · omega
      · omega
      · exact h
    simp [hv]
  · rfl

/-- ZONE-CAL on a zone of a head replaces its two points and answers with those replaced (R41). -/
theorem handleZoneCal_replaces (body : List Byte) (q : ZoneCalBody) (s : State) (h : HeadIx) (z : ZoneIx)
    (hq : parseZoneCal body = some q) (hh : q.head = h.val) (hz : q.zone = z.val) (hv : q.cal.valid = true) :
    handleZoneCal body s
      = (.ok (p2 s.heads[h.val].zones[z.val].cal.pLo ++ p2 s.heads[h.val].zones[z.val].cal.cLo
          ++ p2 s.heads[h.val].zones[z.val].cal.pHi ++ p2 s.heads[h.val].zones[z.val].cal.cHi),
        s.modHead h fun d => d.modZone z fun c => { c with cal := q.cal }) := by
  unfold handleZoneCal
  rw [withBody_some _ _ _ _ _ hq, hh, hz, toIx_val, toIx_val]
  simp [hv]

/-- Settles O34: the window's end by the fit of its reading, ZONE-CAL by its checks. -/
theorem windowEndCorrectsOrFlagsTheZone : Obligations.WindowEndCorrectsOrFlagsTheZone := by
  constructor
  · intro s h z w hr hw c m now scaled r fits
    have hread : s.processed h z = r := s.processed_eq h z
    constructor
    · intro hf
      rw [exec_autoZeroWindowEnd s h z w hr hw, hread]
      refine congrArg Host.Outcome.next (State.modHead_congr _ h (Head.modZone_congr _ z ?_))
      refine (Zone.endWindow_fits _ _ _ _ _ _ hf).trans ?_
      rw [clamp32_eq]
      rfl
    · intro hf
      rw [exec_autoZeroWindowEnd s h z w hr hw, hread]
      refine congrArg Host.Outcome.next (State.modHead_congr _ h (Head.modZone_congr _ z ?_))
      refine (Zone.endWindow_drifts _ _ _ _ _ _ hf).trans ?_
      rw [clamp32_eq]
      rfl
  · intro s tag body q ho hq ok
    have hok : q.cal.valid = true ↔ ok := q.cal.valid_iff
    refine ⟨fun hbad => ?_, fun h z hh hz hgood => ?_⟩
    · refine congrArg Host.Outcome.next (arrive_answer 0x19 tag body handleZoneCal s _ ho (handleZoneCal_refuses body q _ hq ?_))
      exact hbad.imp_right fun b => b.imp_right fun n => by simpa [← hok] using n
    · exact congrArg Host.Outcome.next (arrive_effect 0x19 tag body handleZoneCal s _
        (fun u => u.modHead h fun d => d.modZone z fun c => { c with cal := q.cal }) ho
        (handleZoneCal_replaces body q _ h z hq hh hz (hok.mpr hgood)) rfl rfl)

end Sys2Proof.Machine
end

section
/-! Samples: the order of the users, and the users that leave a check alone (R171). -/

namespace Sys2Proof.Machine

/-! ### The order of the parties -/

theorem nodup_eraseDups {α : Type} [BEq α] [LawfulBEq α] (xs : List α) : xs.eraseDups.Nodup := by
  induction h : xs.length using Nat.strong_induction_on generalizing xs with
  | _ n ih =>
    cases xs with
    | nil => simp
    | cons x xs =>
      rw [List.eraseDups_cons, List.nodup_cons]
      refine ⟨by simp [List.mem_eraseDups], ih _ ?_ _ rfl⟩
      have := List.length_filter_le (fun y => !y == x) xs
      simp only [List.length_cons] at h
      omega

/-- Every party takes the event exactly once: it stands at one place of the completed order. -/
theorem completeOrder_split {α : Type} [BEq α] [LawfulBEq α] (named : List α) {all : List α} (hn : all.Nodup) {x : α} (hx : x ∈ all) :
    ∃ before after, completeOrder named all = before ++ x :: after ∧ x ∉ before ∧ x ∉ after := by
  have hmem : x ∈ completeOrder named all := by
    by_cases e : x ∈ named <;> simp [completeOrder, e, hx]
  have hnodup : (completeOrder named all).Nodup := by
    refine List.nodup_append.mpr ⟨nodup_eraseDups named, hn.filter _, fun a ha b hb e => ?_⟩
    simp only [List.mem_eraseDups, List.mem_filter, List.contains_eq_mem, Bool.not_eq_true', decide_eq_false_iff_not] at ha hb
    exact hb.2 (e ▸ ha)
  obtain ⟨before, after, e⟩ := List.append_of_mem hmem
  rw [e, List.nodup_append, List.nodup_cons] at hnodup
  obtain ⟨-, ⟨ha, -⟩, hb⟩ := hnodup
  exact ⟨before, after, e, fun k => hb x k x (List.mem_cons_self ..) rfl, ha⟩

theorem forEach_append {α : Type} (xs ys : List α) (f : α → State → State) (s : State) :
    forEach (xs ++ ys) f s = forEach ys f (forEach xs f s) := List.foldl_append

theorem allUsers_nodup : allUsers.Nodup := by decide

/-! ### The start of a sample -/

/-- The hub once a sample of the source at the time `t` has been converted: its first half of `State.sample`. -/
def Hub.convertSample (u : Hub) (src : Source) (t raw : Nat) : Hub :=
  let u' := { u with sampled := u.sampled.set (Source.place src).val (some t) }
  match Source.channel src with
  | none => u'
  | some c => { u' with channels := u'.channels.set c.val (u'.channels[c.val].convert raw) }

/-- The channel of a source takes the raw code along its calibration (R168). -/
theorem Hub.convertSample_scaled (u : Hub) (src : Source) (t raw : Nat) (i : ChanIx) (h : Source.channel src = some i) :
    (u.convertSample src t raw).channels[i.val].scaled = u.channels[i.val].cal.scale raw := by
  simp [Hub.convertSample, h, Channel.convert]

/-- What the hub keeps of a flow is read by no source. -/
theorem State.keepFlow_sourceValue (s : State) (u : Hub) (src : Source) (v : Int) :
    { s with hub := u.keepFlow src v }.sourceValue src = { s with hub := u }.sourceValue src := by
  cases src <;> rfl

theorem Hub.keepFlow_channels (u : Hub) (src : Source) (v : Int) : (u.keepFlow src v).channels = u.channels := by
  cases src <;> rfl

/-- A sample brings the clock to its moment, scales its channel and hands the present value of its source to the users (R171). -/
theorem State.sample_eq (s : State) (src : Source) (raw : Nat) (order : List SampleUser) :
    ∃ hub : Hub, (∀ i, Source.channel src = some i → hub.channels[i.val].scaled = s.hub.channels[i.val].cal.scale raw)
      ∧ s.sample src raw order = forEach (completeOrder order allUsers)
          (fun x t => t.useSample src ({ s with now := max s.now (s.sampleDue src), hub := hub }.sourceValue src)
            s.hub.sampled[(Source.place src).val].isNone x)
          { s with now := max s.now (s.sampleDue src), hub := hub } := by
  let u := s.hub.convertSample src (s.sampleDue src) raw
  let v := { s with now := max s.now (s.sampleDue src), hub := u }.sourceValue src
  refine ⟨u.keepFlow src v, fun i h => ?_, ?_⟩
  · rw [u.keepFlow_channels]
    exact s.hub.convertSample_scaled src _ raw i h
  · have e : { s with now := max s.now (s.sampleDue src), hub := u.keepFlow src v }.sourceValue src = v :=
      State.keepFlow_sourceValue { s with now := max s.now (s.sampleDue src) } u src v
    rw [e]
    unfold State.sample
    cases c : Source.channel src <;> simp only [u, v, Hub.convertSample, c] <;> rfl

/-- The command SOURCE_SAMPLE in a part that runs. -/
theorem exec_sourceSample (s : State) (src : Source) (raw : BitVec 16) (order : List SampleUser) (hr : s.running = true) :
    exec (.sourceSample src raw order) s = .next (s.sample src raw.toNat order) :=
  congrArg Host.Outcome.next (s.whenRunning_true _ hr)

/-! ### Users that leave the checks alone -/

/-- No watch filters the source. -/
def State.Unwatched (s : State) (src : Source) : Prop := ∀ w : WatchIx, s.watches[w.val].defn.source ≠ src

theorem State.Unwatched.of_keeps {s t : State} {src : Source} (k : s.Keeps t) (h : s.Unwatched src) : t.Unwatched src := fun w => by
  rw [k.defn w]
  exact h w

/-- A monitor moves its output alone. -/
theorem State.useSample_monitor (s : State) (src : Source) (v : Int) (first : Bool) (o : MonIx) :
    ∃ hub, s.useSample src v first (.monitor o) = { s with hub := hub } := by
  unfold State.useSample
  dsimp only
  split
  · exact ⟨_, rfl⟩
  · exact ⟨s.hub, rfl⟩

theorem State.useSample_watch (s : State) (src : Source) (v : Int) (first : Bool) (w : WatchIx) (hw : s.Unwatched src) :
    s.useSample src v first (.watch w) = s := if_neg (hw w)

/-- A loop over users that touch the hub alone touches the hub alone. -/
theorem forEach_hub {src : Source} (xs : List SampleUser) (f : SampleUser → State → State) (s : State) (hw : s.Unwatched src)
    (hf : ∀ x ∈ xs, ∀ t : State, t.Unwatched src → ∃ hub, f x t = { t with hub := hub }) :
    ∃ hub, forEach xs f s = { s with hub := hub } := by
  induction xs generalizing s with
  | nil => exact ⟨s.hub, rfl⟩
  | cons x xs ih =>
    obtain ⟨u, e⟩ := hf x (List.mem_cons_self ..) s hw
    obtain ⟨hub, e'⟩ := ih { s with hub := u } hw fun y hy => hf y (List.mem_cons_of_mem _ hy)
    exact ⟨hub, by rw [forEach_cons, e, e']⟩

/-- An unwatched source outside the zones feeds one check, and beside it the monitors alone. -/
theorem State.sample_of_check (s : State) (src : Source) (raw : Nat) (order : List SampleUser) (y : SampleUser) (hy : y ∈ allUsers)
    (hw : s.Unwatched src)
    (hx : ∀ (t : State) (v : Int) (first : Bool) (x : SampleUser), t.Unwatched src → x ≠ y →
      ∃ hub, t.useSample src v first x = { t with hub := hub })
    (hk : ∀ (t : State) (v : Int) (first : Bool), t.Keeps (t.useSample src v first y)) :
    ∃ hub₁ hub₂ hub₃, (∀ i, Source.channel src = some i → hub₁.channels[i.val].scaled = s.hub.channels[i.val].cal.scale raw)
      ∧ s.sample src raw order
        = { State.useSample { s with now := max s.now (s.sampleDue src), hub := hub₂ } src
              ({ s with now := max s.now (s.sampleDue src), hub := hub₁ }.sourceValue src)
              s.hub.sampled[(Source.place src).val].isNone y with hub := hub₃ } := by
  obtain ⟨hub, hv, e⟩ := s.sample_eq src raw order
  obtain ⟨before, after, eo, nb, na⟩ := completeOrder_split order allUsers_nodup hy
  rw [eo, forEach_append, forEach_cons] at e
  obtain ⟨u₁, e₁⟩ := forEach_hub (src := src) before (fun x t => t.useSample src
    ({ s with now := max s.now (s.sampleDue src), hub := hub }.sourceValue src) s.hub.sampled[(Source.place src).val].isNone x)
    { s with now := max s.now (s.sampleDue src), hub := hub } hw fun x hb t ht => hx t _ _ x ht fun k => nb (k ▸ hb)
  rw [e₁] at e
  have hw₂ := State.Unwatched.of_keeps (hk { s with now := max s.now (s.sampleDue src), hub := u₁ }
    ({ s with now := max s.now (s.sampleDue src), hub := hub }.sourceValue src) s.hub.sampled[(Source.place src).val].isNone) hw
  obtain ⟨u₂, e₂⟩ := forEach_hub after _ _ hw₂ fun x ha t ht => hx t _ _ x ht fun k => na (k ▸ ha)
  exact ⟨hub, u₁, u₂, hv, e.trans e₂⟩

/-- Beside the flow check a flow source feeds the monitors alone. -/
theorem State.useSample_beside_flowCheck (l : LineIx) (t : State) (v : Int) (first : Bool) (x : SampleUser)
    (hw : t.Unwatched (.flow l)) (ne : x ≠ .flowCheck) : ∃ hub, t.useSample (.flow l) v first x = { t with hub := hub } := by
  cases x with
  | watch w => exact ⟨t.hub, t.useSample_watch _ v first w hw⟩
  | monitor o => exact t.useSample_monitor _ v first o
  | flowCheck => exact absurd rfl ne
  | autoZero | supervision | conditioner => exact ⟨t.hub, rfl⟩

/-- Beside the conditioner a torque source feeds the monitors alone. -/
theorem State.useSample_beside_conditioner (p : PlatenIx) (t : State) (v : Int) (first : Bool) (x : SampleUser)
    (hw : t.Unwatched (.torque p)) (ne : x ≠ .conditioner) : ∃ hub, t.useSample (.torque p) v first x = { t with hub := hub } := by
  cases x with
  | watch w => exact ⟨t.hub, t.useSample_watch _ v first w hw⟩
  | monitor o => exact t.useSample_monitor _ v first o
  | conditioner => exact absurd rfl ne
  | autoZero | supervision | flowCheck => exact ⟨t.hub, rfl⟩

/-- A sample of an unwatched flow source is its flow check, and beside it moves the hub alone. -/
theorem State.sample_flow (s : State) (l : LineIx) (raw : Nat) (order : List SampleUser) (hw : s.Unwatched (.flow l)) :
    ∃ hub₁ hub₂, s.sample (.flow l) raw order
      = { State.flowSample { s with now := max s.now (s.sampleDue (.flow l)), hub := hub₁ } l (s.hub.channels[29 + l.val].cal.scale raw) with
          hub := hub₂ } := by
  obtain ⟨hub, u₁, u₂, hv, e⟩ := s.sample_of_check (.flow l) raw order .flowCheck (by decide) hw (State.useSample_beside_flowCheck l)
    fun t v _ => (t.flowSample_keepsPool l v).toKeeps
  have value : { s with now := max s.now (s.sampleDue (.flow l)), hub := hub }.sourceValue (.flow l)
      = s.hub.channels[29 + l.val].cal.scale raw := hv ⟨29 + l.val, by omega⟩ rfl
  rw [value] at e
  exact ⟨u₁, u₂, e⟩

/-- A sample of an unwatched torque source is taken by its conditioner, and beside it moves the hub alone. -/
theorem State.sample_torque (s : State) (p : PlatenIx) (raw : Nat) (order : List SampleUser) (hw : s.Unwatched (.torque p)) :
    ∃ hub₁ hub₂, s.sample (.torque p) raw order
      = { State.torqueSample { s with now := max s.now (s.sampleDue (.torque p)), hub := hub₁ } p
            (s.hub.channels[26 + p.val].cal.scale raw) with hub := hub₂ } := by
  obtain ⟨hub, u₁, u₂, hv, e⟩ := s.sample_of_check (.torque p) raw order .conditioner (by decide) hw (State.useSample_beside_conditioner p)
    fun t v _ => (t.torqueSample_keepsPool p v).toKeeps
  have value : { s with now := max s.now (s.sampleDue (.torque p)), hub := hub }.sourceValue (.torque p)
      = s.hub.channels[26 + p.val].cal.scale raw := hv ⟨26 + p.val, by omega⟩ rfl
  rw [value] at e
  exact ⟨u₁, u₂, e⟩

end Sys2Proof.Machine
end

section
/-! Samples: the pressure supervision (R42, R43). -/

namespace Sys2Proof.Machine

/-! ### What leaves the supervision alone -/

/-- A head whose state, supervision, limits, commands and deviation timers are as before. -/
structure Head.SameCourse (d e : Head) : Prop where
  state : e.state = d.state
  haltReason : e.haltReason = d.haltReason
  supervision : e.supervision = d.supervision
  limits : e.limits = d.limits
  command : ∀ z : ZoneIx, e.zones[z.val].command = d.zones[z.val].command
  deviating : ∀ z : ZoneIx, e.zones[z.val].deviating = d.zones[z.val].deviating

theorem Head.SameCourse.refl (d : Head) : d.SameCourse d := ⟨rfl, rfl, rfl, rfl, fun _ => rfl, fun _ => rfl⟩

theorem Head.SameCourse.trans {a b c : Head} (h : a.SameCourse b) (k : b.SameCourse c) : a.SameCourse c :=
  ⟨k.state.trans h.state, k.haltReason.trans h.haltReason, k.supervision.trans h.supervision, k.limits.trans h.limits,
    fun z => (k.command z).trans (h.command z), fun z => (k.deviating z).trans (h.deviating z)⟩

/-- The clock, the watches and the course of every head are as before. -/
structure State.SparesSupervision (s t : State) : Prop where
  now : t.now = s.now
  watches : t.watches = s.watches
  heads : ∀ h : HeadIx, s.heads[h.val].SameCourse t.heads[h.val]

theorem State.SparesSupervision.refl (s : State) : s.SparesSupervision s := ⟨rfl, rfl, fun _ => .refl _⟩

theorem State.SparesSupervision.trans {a b c : State} (h : a.SparesSupervision b) (k : b.SparesSupervision c) :
    a.SparesSupervision c :=
  ⟨k.now.trans h.now, k.watches.trans h.watches, fun x => (h.heads x).trans (k.heads x)⟩

/-- A window that takes its first reading changes nothing of its head's course. -/
theorem Head.modZone_window_sameCourse (d : Head) (z : ZoneIx) (f : Option Window → Option Window) :
    d.SameCourse (d.modZone z fun c => { c with window := f c.window }) := by
  refine ⟨rfl, rfl, rfl, rfl, fun k => ?_, fun k => ?_⟩ <;> rw [Head.modZone_zones, get_set] <;> split <;> simp_all

theorem State.useSample_beside_supervision (h : HeadIx) (z : ZoneIx) (t : State) (v : Int) (first : Bool) (x : SampleUser)
    (hw : t.Unwatched (.pressure h z)) (ne : x ≠ .supervision) : t.SparesSupervision (t.useSample (.pressure h z) v first x) := by
  cases x with
  | watch w => rw [t.useSample_watch _ v first w hw]; exact .refl t
  | monitor o =>
    obtain ⟨hub, e⟩ := t.useSample_monitor (.pressure h z) v first o
    rw [e]
    exact ⟨rfl, rfl, fun _ => .refl _⟩
  | supervision => exact absurd rfl ne
  | flowCheck | conditioner => exact .refl t
  | autoZero =>
    unfold State.useSample
    dsimp only
    split
    · refine ⟨rfl, rfl, fun k => ?_⟩
      rw [State.modHead_heads, get_set]
      split
      · next e =>
        subst e
        exact Head.modZone_window_sameCourse _ z fun o => o.map fun w => if w.start = t.now then ⟨w.start, v⟩ else w
      · exact .refl _
    · exact .refl t

theorem forEach_sparesSupervision {src : Source} (xs : List SampleUser) (f : SampleUser → State → State) (s : State) (hw : s.Unwatched src)
    (hf : ∀ x ∈ xs, ∀ t : State, t.Unwatched src → t.SparesSupervision (f x t)) : s.SparesSupervision (forEach xs f s) := by
  induction xs generalizing s with
  | nil => exact .refl s
  | cons x xs ih =>
    have h1 := hf x (List.mem_cons_self ..) s hw
    refine h1.trans (ih (f x s) (fun w => ?_) fun y hy => hf y (List.mem_cons_of_mem _ hy))
    rw [h1.watches]
    exact hw w

/-- The value of a zone's sample: the raw code along the channel's calibration, less the offset, clamped (R168). -/
theorem sourceValue_pressure (s : State) (h : HeadIx) (z : ZoneIx) (scaled : Int)
    (hs : s.hub.channels[(zoneChannel h z).val].scaled = scaled) :
    s.sourceValue (.pressure h z) = max (-2147483648) (min 2147483647 (scaled - s.heads[h.val].zones[z.val].offset)) := by
  rw [← hs]
  exact s.processed_eq h z

/-- A sample of an unwatched zone is one check of its supervision, and beside it nothing of any head's course moves. -/
theorem State.sample_pressure (s : State) (h : HeadIx) (z : ZoneIx) (raw : Nat) (order : List SampleUser)
    (hw : s.Unwatched (.pressure h z)) :
    ∃ t : State, t.now = max s.now (s.sampleDue (.pressure h z)) ∧ (∀ k : HeadIx, s.heads[k.val].SameCourse t.heads[k.val])
      ∧ (t.superviseSample h z (max (-2147483648) (min 2147483647
          (s.hub.channels[5 * h.val + z.val].cal.scale raw - s.heads[h.val].zones[z.val].offset)))).SparesSupervision
        (s.sample (.pressure h z) raw order) := by
  obtain ⟨hub, hv, e⟩ := s.sample_eq (.pressure h z) raw order
  obtain ⟨before, after, eo, nb, na⟩ := completeOrder_split order allUsers_nodup (x := .supervision) (by decide)
  rw [sourceValue_pressure { s with now := max s.now (s.sampleDue (.pressure h z)), hub := hub } h z _ (hv (zoneChannel h z) rfl), eo,
    forEach_append, forEach_cons] at e
  have h1 := forEach_sparesSupervision (src := .pressure h z) before _ { s with now := max s.now (s.sampleDue (.pressure h z)), hub := hub } hw
    fun x hb t ht => State.useSample_beside_supervision h z t (max (-2147483648) (min 2147483647
          (s.hub.channels[5 * h.val + z.val].cal.scale raw - s.heads[h.val].zones[z.val].offset)))
      s.hub.sampled[(Source.place (.pressure h z)).val].isNone x ht fun k => nb (k ▸ hb)
  refine ⟨_, h1.now, h1.heads, ?_⟩
  rw [e]
  refine forEach_sparesSupervision (src := .pressure h z) after _ _ (State.Unwatched.of_keeps (State.superviseSample_keepsPool _ h z _).toKeeps
    fun w => ?_) fun x ha t ht => State.useSample_beside_supervision h z t _ _ x ht fun k => na (k ▸ ha)
  rw [h1.watches]
  exact hw w

/-! ### The three outcomes of a check (R42) -/

section outcomes

variable (s : State) (h : HeadIx) (z : ZoneIx) (v : Int) (ht : s.heads[h.val].supervision = .testing)
include ht

/-- Within the tolerance the deviation timer is cleared. -/
theorem State.superviseSample_calm
    (hv : ¬ s.heads[h.val].limits.deviationTolerance < (v - s.heads[h.val].zones[z.val].command).natAbs) :
    (s.superviseSample h z v).heads[h.val].zones[z.val].deviating = none
      ∧ (s.superviseSample h z v).heads[h.val].state = s.heads[h.val].state := by
  unfold State.superviseSample
  dsimp only
  rw [if_pos ht, if_neg hv]
  simp

/-- Outside it, short of the deviation time, the timer runs from its start, or from now. -/
theorem State.superviseSample_runs
    (hv : s.heads[h.val].limits.deviationTolerance < (v - s.heads[h.val].zones[z.val].command).natAbs)
    (hd : s.now - s.heads[h.val].zones[z.val].deviating.getD s.now < s.heads[h.val].limits.deviationTime) :
    (s.superviseSample h z v).heads[h.val].zones[z.val].deviating = some (s.heads[h.val].zones[z.val].deviating.getD s.now)
      ∧ (s.superviseSample h z v).heads[h.val].state = s.heads[h.val].state := by
  unfold State.superviseSample
  dsimp only
  rw [if_pos ht, if_pos hv, if_neg (Nat.not_le.mpr hd)]
  simp

/-- Outside it for the deviation time the head halts. -/
theorem State.superviseSample_halts
    (hv : s.heads[h.val].limits.deviationTolerance < (v - s.heads[h.val].zones[z.val].command).natAbs)
    (hd : s.heads[h.val].limits.deviationTime ≤ s.now - s.heads[h.val].zones[z.val].deviating.getD s.now)
    (hn : s.heads[h.val].state ≠ .halted) :
    (s.superviseSample h z v).heads[h.val].state = .halted
      ∧ (s.superviseSample h z v).heads[h.val].haltReason = some .pressureDeviation := by
  unfold State.superviseSample
  dsimp only
  rw [if_pos ht, if_pos hv, if_pos hd]
  exact ⟨State.haltHead_state _ _ _ _ _, (State.haltHead_reason _ _ _ _ _ (by simpa using hn)).1⟩

end outcomes

end Sys2Proof.Machine
end

section
/-! Samples: the flow check and the fault of a line (R102, R103). -/

namespace Sys2Proof.Machine

/-! ### What leaves the records, the lines and the link alone -/

/-- The records, the lines and the link are as before. -/
structure State.SparesFlow (s t : State) : Prop where
  recs : t.recs = s.recs
  lines : t.lines = s.lines
  link : t.link = s.link

theorem State.SparesFlow.refl (s : State) : s.SparesFlow s := ⟨rfl, rfl, rfl⟩

theorem State.SparesFlow.trans {a b c : State} (h : a.SparesFlow b) (k : b.SparesFlow c) : a.SparesFlow c :=
  ⟨k.recs.trans h.recs, k.lines.trans h.lines, k.link.trans h.link⟩

theorem State.unbind_sparesFlow (s : State) (h : HeadIx) : s.SparesFlow (s.unbind h) := by
  unfold State.unbind
  refine forEach_rel State.SparesFlow.refl State.SparesFlow.trans _ _ (fun _ _ => ?_) s
  exact ⟨rfl, rfl, rfl⟩

theorem State.dropHolder_sparesFlow (s : State) (h : HeadIx) : s.SparesFlow (s.dropHolder h) := by
  unfold State.dropHolder
  refine forEach_rel State.SparesFlow.refl State.SparesFlow.trans _ _ (fun _ _ => ?_) s
  exact ⟨rfl, rfl, rfl⟩

theorem State.testReady_sparesFlow (s : State) : s.SparesFlow s.testReady := by
  unfold State.testReady
  split
  · unfold State.enterLifting
    have car : s.SparesFlow (s.modCar fun c => { c with state := .lifting, liftStart := s.now, lifted := false }) := ⟨rfl, rfl, rfl⟩
    refine car.trans (forEach_rel State.SparesFlow.refl State.SparesFlow.trans _ _ (fun _ _ => ?_) _)
    exact ⟨rfl, rfl, rfl⟩
  · exact .refl s

/-- The records and lines are as before, and at most `n` notices have been posted by a transmitter that goes on sending. -/
structure State.Posts (n : Nat) (s t : State) : Prop where
  recs : t.recs = s.recs
  lines : t.lines = s.lines
  notices : s.link.tx.isSome = true → t.link.tx.isSome = true ∧ t.link.notices.length ≤ s.link.notices.length + n

theorem State.SparesFlow.posts {s t : State} (h : s.SparesFlow t) : State.Posts 0 s t :=
  ⟨h.recs, h.lines, fun k => by rw [h.link]; exact ⟨k, Nat.le_refl _⟩⟩

theorem State.Posts.trans {m n : Nat} {a b c : State} (h : State.Posts m a b) (k : State.Posts n b c) : State.Posts (m + n) a c :=
  ⟨k.recs.trans h.recs, k.lines.trans h.lines, fun x => by
    obtain ⟨y, hb⟩ := h.notices x
    obtain ⟨w, hc⟩ := k.notices y
    exact ⟨w, by omega⟩⟩

/-- A busy transmitter goes on sending when a notice is posted. -/
theorem State.post_posts (s : State) (n : Notice) : State.Posts 1 s (s.post n) :=
  ⟨rfl, rfl, fun x => by
    rw [State.post_link]
    rcases Nat.lt_or_ge s.link.notices.length 32 with room | full
    · rw [Link.post_of_sending _ n x room]
      exact ⟨x, by simp⟩
    · rw [Link.post_of_full _ n x full]
      exact ⟨x, by simp⟩⟩

theorem State.modHead_posts (s : State) (h : HeadIx) (f : Head → Head) : State.Posts 0 s (s.modHead h f) :=
  State.SparesFlow.posts ⟨rfl, rfl, rfl⟩

theorem State.endStep_posts (s : State) (h : HeadIx) (why : StepReason) : State.Posts 1 s (s.endStep h why) := by
  unfold State.endStep
  dsimp only
  split
  · exact ⟨rfl, rfl, fun x => ⟨x, by omega⟩⟩
  · exact ((s.post_posts _).trans (State.unbind_sparesFlow _ h).posts).trans (State.modHead_posts _ h _)

theorem State.endHeld_posts (s : State) (h : HeadIx) (why : StepReason) : State.Posts 1 s (s.endHeld h why) := by
  unfold State.endHeld
  dsimp only
  split
  · exact ⟨rfl, rfl, fun x => ⟨x, by omega⟩⟩
  · exact (s.post_posts _).trans (State.modHead_posts _ h _)

/-! ### The halt of a head that has lost its dose -/

theorem State.endStep_dose (s : State) (h : HeadIx) (why : StepReason) :
    (s.endStep h why).heads[h.val].dose = s.heads[h.val].dose := by
  unfold State.endStep
  dsimp only
  split <;> simp

theorem State.endHeld_dose (s : State) (h : HeadIx) (why : StepReason) :
    (s.endHeld h why).heads[h.val].dose = s.heads[h.val].dose := by
  unfold State.endHeld
  dsimp only
  split <;> simp

/-- A head that gives up a dose already CLOSING only forgets it (R71). -/
theorem State.releaseDose_of_closing (s : State) (h : HeadIx) (r : RecIx) (hd : s.heads[h.val].dose = some r)
    (hc : s.recs[r.val].state = .closing) : s.releaseDose h = s.modHead h fun d => { d with dose := none } := by
  unfold State.releaseDose
  rw [hd]
  dsimp only
  rw [hc]
  simp [State.close, hc, DoseState.live]

/-- Its halt moves no record and no line, and posts at most two notices: the end of its step and HEAD-HALTED. -/
theorem State.haltHead_of_closing (s : State) (h : HeadIx) (r : RecIx) (why : HaltReason) (zone : Option ZoneIx) (watch : Option WatchIx)
    (hd : s.heads[h.val].dose = some r) (hc : s.recs[r.val].state = .closing) :
    State.Posts 2 s (s.haltHead h why zone watch) := by
  unfold State.haltHead
  split
  · exact ⟨rfl, rfl, fun x => ⟨x, by omega⟩⟩
  · have rest : ∀ t : State, State.Posts 1 s t → t.heads[h.val].dose = some r → State.Posts 2 s
        ((((((t.modHead h fun d => { d with state := .halted, haltReason := some why, snapshot := [] }).releaseDose h).unbind h).dropHolder
          h).post (.headHalted h why zone watch)).testReady) := fun t ht hdt => by
      rw [State.releaseDose_of_closing _ h r (by simpa using hdt) (by rw [State.modHead_recs, ht.recs]; exact hc)]
      exact (((((ht.trans (State.modHead_posts _ h _)).trans (State.modHead_posts _ h _)).trans
        (State.unbind_sparesFlow _ h).posts).trans (State.dropHolder_sparesFlow _ h).posts).trans (State.post_posts _ _)).trans
        (State.testReady_sparesFlow _).posts
    have h1 : State.Posts 0 s ((s.toStandby h).modHead h fun d => { d.zeroCommands.stopSupervision with updateDue := none }) :=
      State.SparesFlow.posts ⟨rfl, rfl, rfl⟩
    have hd1 : ((s.toStandby h).modHead h fun d => { d.zeroCommands.stopSupervision with updateDue := none }).heads[h.val].dose
        = some r := by
      simpa [State.toStandby, State.setModes, Head.zeroCommands, Head.stopSupervision] using hd
    dsimp only
    apply rest
    · split
      · exact h1.trans (State.endHeld_posts _ h _)
      · exact h1.trans (State.endStep_posts _ h _)
    · split
      · exact (State.endHeld_dose _ h _).trans hd1
      · exact (State.endStep_dose _ h _).trans hd1

/-! ### The closing of one dose with a reason its head is told of -/

/-- A closed record is CLOSING. -/
theorem State.close_get (s : State) (r : RecIx) (why : DoseReason) (hl : s.recs[r.val].state.live = true) :
    (s.close r why).recs[r.val] = { s.recs[r.val] with state := .closing, reason := some why, since := s.now } := by
  rw [State.close_recs, if_pos hl]
  simp

/-- A head that loses its dose by its closing is told: nothing but that head, and at most two notices. -/
theorem State.tellLoss_posts (s : State) (r : RecIx) (hc : s.recs[r.val].state = .closing) : State.Posts 2 s (s.tellLoss r) := by
  unfold State.tellLoss
  split
  · exact ⟨rfl, rfl, fun x => ⟨x, by omega⟩⟩
  · split
    · next e => exact s.haltHead_of_closing _ r _ _ _ e.1 hc
    · exact ⟨rfl, rfl, fun x => ⟨x, by omega⟩⟩

/-- An ending that is told leaves the records as the ending alone. -/
theorem State.closeAndTell_recs (s : State) (r : RecIx) (why : DoseReason) :
    (s.closeAndTell r why).recs = (s.close r why).recs := by
  unfold State.closeAndTell
  split
  · next hl => exact (State.tellLoss_posts _ r (by rw [s.close_get r why hl])).recs
  · next hl => rw [State.close_recs, if_neg hl]

/-- What it makes of each record. -/
theorem State.closeAndTell_rec (s : State) (r k : RecIx) (why : DoseReason) :
    (s.closeAndTell r why).recs[k.val] = if k = r ∧ s.recs[k.val].state.live = true then
      { s.recs[k.val] with state := .closing, reason := some why, since := s.now } else s.recs[k.val] := by
  rw [State.closeAndTell_recs, State.close_recs]
  by_cases hl : s.recs[r.val].state.live = true
  · rw [if_pos hl, get_set]
    by_cases e : k = r
    · subst e
      rw [if_pos rfl, if_pos ⟨rfl, hl⟩]
    · rw [if_neg e, if_neg fun c => e c.1]
  · rw [if_neg hl, if_neg]
    rintro ⟨rfl, c⟩
    exact hl c

/-- A flow check changes no line whose fault timer does not run. -/
theorem State.settleCheck_line (s : State) (l k : LineIx) (hf : s.lines[l.val].faultSince = none) :
    (s.settleCheck k).lines[l.val] = s.lines[l.val] := by
  by_cases c : s.checkRuns k = true
  · simp only [State.settleCheck, if_pos c]
  · simp only [State.settleCheck, if_neg c, State.modLine_lines, get_set]
    split
    · next e => subst e; rw [← hf]
    · rfl

theorem State.closeAndTell_line (s : State) (r : RecIx) (why : DoseReason) (l : LineIx) (hf : s.lines[l.val].faultSince = none) :
    (s.closeAndTell r why).lines[l.val] = s.lines[l.val] := by
  by_cases hl : s.recs[r.val].state.live = true
  · have told := (State.tellLoss_posts (s.close r why) r (by rw [s.close_get r why hl])).lines
    simp only [State.closeAndTell, if_pos hl, told]
    simp only [State.close, if_pos hl]
    exact State.settleCheck_line _ l _ hf
  · simp only [State.closeAndTell, if_neg hl]

/-- It leaves a head that does not work on this dose. -/
theorem State.closeAndTell_head (s : State) (r : RecIx) (why : DoseReason) (h : HeadIx)
    (hn : s.heads[h.val].dose ≠ some r ∨ s.heads[h.val].state.losesDose = false) :
    (s.closeAndTell r why).heads[h.val] = s.heads[h.val] := by
  have told : s.closeAndTell r why = s ∨ s.closeAndTell r why = s.close r why
      ∨ ∃ k, h ≠ k ∧ s.closeAndTell r why = (s.close r why).haltHead k .slurryLost none none := by
    unfold State.closeAndTell State.tellLoss
    split
    · split
      · exact .inr (.inl rfl)
      · next k _ =>
        rw [State.close_heads]
        split
        · next e =>
          refine .inr (.inr ⟨k, ?_, rfl⟩)
          rintro rfl
          rcases hn with hn | hn
          · exact hn e.1
          · exact absurd (hn.symm.trans e.2) (by decide)
        · exact .inr (.inl rfl)
    · exact .inl rfl
  obtain e | e | ⟨k, ne, e⟩ := told
  · simp only [e]
  · simp only [e, State.close_heads]
  · simp only [e, State.haltHead_only _ k _ _ _ h ne, State.close_heads]

/-- It halts the head that works on this dose. -/
theorem State.closeAndTell_halts (s : State) (r : RecIx) (why : DoseReason) (h : HeadIx) (ho : ownerOf r = some h)
    (hl : s.recs[r.val].state.live = true) (hd : s.heads[h.val].dose = some r) (hs : s.heads[h.val].state.losesDose = true) :
    (s.closeAndTell r why).heads[h.val].state = .halted ∧ (s.closeAndTell r why).heads[h.val].haltReason = some .slurryLost := by
  have hn : (s.close r why).heads[h.val].state ≠ .halted := by
    rw [State.close_heads]
    intro e
    rw [e] at hs
    cases hs
  unfold State.closeAndTell State.tellLoss
  rw [if_pos hl, ho]
  dsimp only
  rw [State.close_heads, if_pos ⟨hd, hs⟩]
  exact ⟨State.haltHead_state _ _ _ _ _, (State.haltHead_reason _ _ _ _ _ hn).1⟩

/-! ### The notices of a loop of closings -/

/-- Twice the number of heads that can still lose a dose: the most notices their halts can post. -/
def State.lossNotices (s : State) : Nat := ∑ h : HeadIx, if s.heads[h.val].state.losesDose = true then 2 else 0

theorem State.lossNotices_le (s : State) : s.lossNotices ≤ 8 := by
  unfold State.lossNotices
  refine (Finset.sum_le_card_nsmul _ _ 2 fun h _ => ?_).trans (by simp)
  split <;> omega

/-- A closing spends the notices of the head it halts: one that is halted cannot lose a dose again. -/
theorem State.closeAndTell_notices (s : State) (r : RecIx) (why : DoseReason) (ht : s.link.tx.isSome = true) :
    (s.closeAndTell r why).link.tx.isSome = true
      ∧ (s.closeAndTell r why).link.notices.length + (s.closeAndTell r why).lossNotices
        ≤ s.link.notices.length + s.lossNotices := by
  unfold State.closeAndTell
  split
  · next hl =>
    have hc : (s.close r why).recs[r.val].state = .closing := by rw [s.close_get r why hl]
    have hlink := (s.close_keeps r why).link
    have hheads := s.close_heads r why
    have hloss : (s.close r why).lossNotices = s.lossNotices := by unfold State.lossNotices; rw [hheads]
    rw [← hlink] at ht ⊢
    rw [← hloss]
    generalize s.close r why = u at *
    unfold State.tellLoss
    split
    · exact ⟨ht, Nat.le_refl _⟩
    · next k _ =>
      split
      · next e =>
        obtain ⟨htx, hlen⟩ := (u.haltHead_of_closing k r .slurryLost none none e.1 hc).notices ht
        refine ⟨htx, ?_⟩
        have spent : (u.haltHead k .slurryLost none none).lossNotices + 2 = u.lossNotices := by
          unfold State.lossNotices
          rw [← Finset.add_sum_erase _ _ (Finset.mem_univ k), ← Finset.add_sum_erase Finset.univ (fun h : HeadIx =>
            if u.heads[h.val].state.losesDose = true then 2 else 0) (Finset.mem_univ k), State.haltHead_state, e.2]
          have rest := Finset.sum_congr (rfl : (Finset.univ.erase k) = (Finset.univ.erase k)) fun h hh =>
            congrArg (fun d : Head => if d.state.losesDose = true then 2 else 0)
              (u.haltHead_only k .slurryLost none none h (Finset.ne_of_mem_erase hh))
          rw [rest]
          simp [HeadState.losesDose]
          omega
        omega
      · exact ⟨ht, Nat.le_refl _⟩
  · exact ⟨ht, Nat.le_refl _⟩

/-! ### A loop of closings -/

section loop

variable (why : DoseReason)

/-- Each live record of the list is CLOSING with the reason, from the present moment; every other record is as before. -/
theorem forEach_closeAndTell_rec (rs : List RecIx) (s : State) (k : RecIx) :
    (forEach rs (fun r s => s.closeAndTell r why) s).recs[k.val] = if k ∈ rs ∧ s.recs[k.val].state.live = true then
      { s.recs[k.val] with state := .closing, reason := some why, since := s.now } else s.recs[k.val] := by
  induction rs generalizing s with
  | nil => simp [forEach_nil]
  | cons r rs ih =>
    rw [forEach_cons, ih, (s.closeAndTell_keepsPool r why).now, State.closeAndTell_rec]
    by_cases hl : s.recs[k.val].state.live = true
    · by_cases e : k = r
      · rw [if_pos (show k = r ∧ _ from ⟨e, hl⟩), if_neg fun c => Bool.false_ne_true c.2,
          if_pos (show k ∈ r :: rs ∧ _ from ⟨e ▸ List.mem_cons_self .., hl⟩)]
      · simp [hl, e]
    · simp [hl]

theorem forEach_closeAndTell_line (rs : List RecIx) (s : State) (l : LineIx) (hf : s.lines[l.val].faultSince = none) :
    (forEach rs (fun r s => s.closeAndTell r why) s).lines[l.val] = s.lines[l.val] := by
  induction rs generalizing s with
  | nil => rfl
  | cons r rs ih =>
    have h1 := s.closeAndTell_line r why l hf
    rw [forEach_cons, ih _ (by rw [h1]; exact hf), h1]

/-- A HALTED head stays as it is. -/
theorem forEach_closeAndTell_halted (rs : List RecIx) (s : State) (h : HeadIx) (hs : s.heads[h.val].state = .halted) :
    (forEach rs (fun r s => s.closeAndTell r why) s).heads[h.val] = s.heads[h.val] := by
  induction rs generalizing s with
  | nil => rfl
  | cons r rs ih =>
    have h1 := s.closeAndTell_head r why h (.inr (by rw [hs]; rfl))
    rw [forEach_cons, ih _ (by rw [h1]; exact hs), h1]

/-- A head that works on a live dose of the list is halted at that dose's turn. -/
theorem forEach_closeAndTell_halts (rs : List RecIx) (s : State) (h : HeadIx) (r : RecIx) (hr : r ∈ rs) (ho : ownerOf r = some h)
    (hl : s.recs[r.val].state.live = true) (hd : s.heads[h.val].dose = some r) (hs : s.heads[h.val].state.losesDose = true) :
    (forEach rs (fun r s => s.closeAndTell r why) s).heads[h.val].state = .halted
      ∧ (forEach rs (fun r s => s.closeAndTell r why) s).heads[h.val].haltReason = some .slurryLost := by
  induction rs generalizing s with
  | nil => cases hr
  | cons x rs ih =>
    rw [forEach_cons]
    by_cases e : r = x
    · subst e
      have h1 := s.closeAndTell_halts r why h ho hl hd hs
      rw [forEach_closeAndTell_halted why rs _ h h1.1]
      exact h1
    · have h1 := s.closeAndTell_head x why h (.inl fun c => e (Option.some.inj (hd.symm.trans c)))
      have h2 : (s.closeAndTell x why).recs[r.val] = s.recs[r.val] := by
        rw [State.closeAndTell_rec, if_neg fun c => e c.1]
      exact ih _ ((List.mem_cons.mp hr).resolve_left e) (by rw [h2]; exact hl) (by rw [h1]; exact hd) (by rw [h1]; exact hs)

theorem forEach_closeAndTell_notices (rs : List RecIx) (s : State) (ht : s.link.tx.isSome = true) :
    (forEach rs (fun r s => s.closeAndTell r why) s).link.tx.isSome = true
      ∧ (forEach rs (fun r s => s.closeAndTell r why) s).link.notices.length ≤ s.link.notices.length + 8 := by
  suffices h : (forEach rs (fun r s => s.closeAndTell r why) s).link.tx.isSome = true
      ∧ (forEach rs (fun r s => s.closeAndTell r why) s).link.notices.length
          + (forEach rs (fun r s => s.closeAndTell r why) s).lossNotices ≤ s.link.notices.length + s.lossNotices from by
    have := s.lossNotices_le
    exact ⟨h.1, by omega⟩
  induction rs generalizing s with
  | nil => exact ⟨ht, Nat.le_refl _⟩
  | cons r rs ih =>
    obtain ⟨h1, h2⟩ := s.closeAndTell_notices r why ht
    obtain ⟨h3, h4⟩ := ih _ h1
    exact ⟨h3, by rw [forEach_cons]; omega⟩

end loop

end Sys2Proof.Machine
end

section
/-! Samples: the flow check's outcomes (R102, R103), the dwell's torque (R141), and what a sample feeds. -/

namespace Sys2Proof.Machine

theorem DoseState.live_iff (d : DoseState) : d.live = (d == .opening || d == .flowing) := by cases d <;> rfl

theorem HeadState.losesDose_eq_works (d : HeadState) : d.losesDose = d.works := by cases d <;> rfl

/-- The fault condition, by the expected flow (R102). -/
theorem flowFault_iff (e : Nat) (v : Int) (tol : Nat) :
    flowFault e v tol = true ↔ (e = 0 ∧ 50 < v) ∨ (0 < e ∧ e * tol / 100 < (v - e).natAbs) := by
  unfold flowFault
  rcases Nat.eq_zero_or_pos e with rfl | pos
  · simp
  · simp [Nat.ne_of_gt pos, pos]

/-! ### The entry to FAULTED -/

section fault

variable (s : State) (l : LineIx) (v : Int)

/-- The line as it enters FAULTED, before its doses close. -/
def State.faulted : State := s.modLine l fun c => { c with state := .faulted, primeDue := none, faultSince := none }

/-- The doses that an entry to FAULTED closes, in admission order. -/
def State.liveDoses : List RecIx := s.lines[l.val].admitted.filter fun r => s.recs[r.val].state.live

theorem State.faultLine_eq : s.faultLine l v = (forEach (s.liveDoses l) (fun r s => s.closeAndTell r .lineFault) (s.faulted l)).post
    (.lineFault l s.lines[l.val].state (s.pumpRate l) v (s.liveDoses l).length) := rfl

theorem State.mem_liveDoses (r : RecIx) :
    r ∈ s.liveDoses l ↔ r ∈ s.lines[l.val].admitted ∧ s.recs[r.val].state.live = true := List.mem_filter

theorem State.faultLine_line : (s.faultLine l v).lines[l.val]
    = { s.lines[l.val] with state := .faulted, primeDue := none, faultSince := none } := by
  have entered : (s.faulted l).lines[l.val] = { s.lines[l.val] with state := .faulted, primeDue := none, faultSince := none } := by
    simp only [State.faulted, State.modLine_lines, get_set, if_true]
  simp only [State.faultLine_eq, State.post_lines]
  exact (forEach_closeAndTell_line .lineFault _ _ l (by rw [entered])).trans entered

theorem State.faultLine_rec (r : RecIx) (hr : r ∈ s.lines[l.val].admitted) : (s.faultLine l v).recs[r.val] =
    if s.recs[r.val].state.live = true then { s.recs[r.val] with state := .closing, reason := some .lineFault, since := s.now }
    else s.recs[r.val] := by
  have h := forEach_closeAndTell_rec .lineFault (s.liveDoses l) (s.faulted l) r
  simp only [State.faultLine_eq, State.post_recs]
  by_cases live : s.recs[r.val].state.live = true
  · rw [if_pos live]
    exact h.trans (if_pos ⟨(s.mem_liveDoses l r).mpr ⟨hr, live⟩, live⟩)
  · rw [if_neg live]
    exact h.trans (if_neg fun c => live c.2)

/-- The head that works on a live dose of the line halts with SLURRY-LOST (R22). -/
theorem State.faultLine_halts (h : HeadIx) (r : RecIx) (ho : ownerOf r = some h) (hr : r ∈ s.lines[l.val].admitted)
    (hl : s.recs[r.val].state.live = true) (hd : s.heads[h.val].dose = some r) (hs : s.heads[h.val].state.works = true) :
    (s.faultLine l v).heads[h.val].state = .halted ∧ (s.faultLine l v).heads[h.val].haltReason = some .slurryLost := by
  simp only [State.faultLine_eq, State.post_heads]
  exact forEach_closeAndTell_halts .lineFault _ (s.faulted l) h r ((s.mem_liveDoses l r).mpr ⟨hr, hl⟩) ho hl hd
    (by rw [HeadState.losesDose_eq_works]; exact hs)

/-- LINE-FAULT is the last notice where the halts have left it room. -/
theorem State.faultLine_notice (ht : s.link.tx.isSome = true) (room : s.link.notices.length + 9 ≤ 32) :
    (s.faultLine l v).link.notices.getLast?
      = some (.lineFault l s.lines[l.val].state (s.pumpRate l) v (s.liveDoses l).length) := by
  obtain ⟨sending, few⟩ := forEach_closeAndTell_notices .lineFault (s.liveDoses l) (s.faulted l) ht
  have same : (s.faulted l).link = s.link := rfl
  rw [same] at few
  rw [State.faultLine_eq, State.post_link, Link.post_of_sending _ _ sending (by omega)]
  simp

end fault

/-! ### The three outcomes of a flow check (R102, R103) -/

section outcomes

variable (s : State) (l : LineIx) (v : Int) (hc : s.checkRuns l = true)
include hc

/-- A right flow clears the fault timer. -/
theorem State.flowSample_calm (hv : ¬ flowFault (s.pumpRate l) v s.lines[l.val].config.tolerance = true) :
    (s.flowSample l v).lines[l.val] = { s.lines[l.val] with faultSince := none } := by
  simp only [State.flowSample, if_pos hc, if_neg hv, State.modLine_lines, get_set, if_true]

/-- A wrong flow short of the fault time runs the timer from its start, or from now. -/
theorem State.flowSample_runs (hv : flowFault (s.pumpRate l) v s.lines[l.val].config.tolerance = true)
    (hd : s.now - s.lines[l.val].faultSince.getD s.now < s.lines[l.val].config.faultTime) :
    (s.flowSample l v).lines[l.val] = { s.lines[l.val] with faultSince := some (s.lines[l.val].faultSince.getD s.now) } := by
  simp only [State.flowSample, if_pos hc, if_pos hv, if_neg (Nat.not_le.mpr hd), State.modLine_lines, get_set, if_true]

/-- A flow that has been wrong for the fault time faults the line. -/
theorem State.flowSample_faults (hv : flowFault (s.pumpRate l) v s.lines[l.val].config.tolerance = true)
    (hd : s.lines[l.val].config.faultTime ≤ s.now - s.lines[l.val].faultSince.getD s.now) :
    s.flowSample l v = s.faultLine l v := by
  simp only [State.flowSample, if_pos hc, if_pos hv, if_pos hd]

end outcomes

end Sys2Proof.Machine
end

section
/-! Samples: what a sample feeds (R42, R102, R141). -/

namespace Sys2Proof.Machine

/-! ### Pressure -/

/-- The value of a sample of a zone (R168). -/
def State.pressureValue (s : State) (h : HeadIx) (z : ZoneIx) (raw : Nat) : Int :=
  max (-2147483648) (min 2147483647 (s.hub.channels[5 * h.val + z.val].cal.scale raw - s.heads[h.val].zones[z.val].offset))

/-- Whether a value deviates from a zone's command (R42). -/
def Head.Deviates (d : Head) (z : ZoneIx) (v : Int) : Prop := d.limits.deviationTolerance < (v - d.zones[z.val].command).natAbs

section pressure

variable (s : State) (h : HeadIx) (z : ZoneIx) (raw : Nat) (order : List SampleUser) (hw : s.Unwatched (.pressure h z))
  (ht : s.heads[h.val].supervision = .testing)
include hw ht

theorem State.sample_pressure_calm (hv : ¬ s.heads[h.val].Deviates z (s.pressureValue h z raw)) :
    (s.sample (.pressure h z) raw order).heads[h.val].zones[z.val].deviating = none
      ∧ (s.sample (.pressure h z) raw order).heads[h.val].state = s.heads[h.val].state := by
  obtain ⟨t, -, hk, spared⟩ := s.sample_pressure h z raw order hw
  obtain ⟨dev, state⟩ := t.superviseSample_calm h z (s.pressureValue h z raw) ((hk h).supervision.trans ht)
    (by rw [(hk h).limits, (hk h).command]; exact hv)
  exact ⟨((spared.heads h).deviating z).trans dev, ((spared.heads h).state.trans state).trans (hk h).state⟩

theorem State.sample_pressure_runs (hv : s.heads[h.val].Deviates z (s.pressureValue h z raw))
    (hd : max s.now (s.sampleDue (.pressure h z))
        - s.heads[h.val].zones[z.val].deviating.getD (max s.now (s.sampleDue (.pressure h z))) < s.heads[h.val].limits.deviationTime) :
    (s.sample (.pressure h z) raw order).heads[h.val].zones[z.val].deviating
        = some (s.heads[h.val].zones[z.val].deviating.getD (max s.now (s.sampleDue (.pressure h z))))
      ∧ (s.sample (.pressure h z) raw order).heads[h.val].state = s.heads[h.val].state := by
  obtain ⟨t, now, hk, spared⟩ := s.sample_pressure h z raw order hw
  obtain ⟨dev, state⟩ := t.superviseSample_runs h z (s.pressureValue h z raw) ((hk h).supervision.trans ht)
    (by rw [(hk h).limits, (hk h).command]; exact hv) (by rw [(hk h).limits, (hk h).deviating, now]; exact hd)
  rw [(hk h).deviating, now] at dev
  exact ⟨((spared.heads h).deviating z).trans dev, ((spared.heads h).state.trans state).trans (hk h).state⟩

theorem State.sample_pressure_halts (hv : s.heads[h.val].Deviates z (s.pressureValue h z raw))
    (hd : s.heads[h.val].limits.deviationTime ≤ max s.now (s.sampleDue (.pressure h z))
        - s.heads[h.val].zones[z.val].deviating.getD (max s.now (s.sampleDue (.pressure h z))))
    (hn : s.heads[h.val].state ≠ .halted) :
    (s.sample (.pressure h z) raw order).heads[h.val].state = .halted
      ∧ (s.sample (.pressure h z) raw order).heads[h.val].haltReason = some .pressureDeviation := by
  obtain ⟨t, now, hk, spared⟩ := s.sample_pressure h z raw order hw
  obtain ⟨state, reason⟩ := t.superviseSample_halts h z (s.pressureValue h z raw) ((hk h).supervision.trans ht)
    (by rw [(hk h).limits, (hk h).command]; exact hv) (by rw [(hk h).limits, (hk h).deviating, now]; exact hd)
    (by rw [(hk h).state]; exact hn)
  exact ⟨(spared.heads h).state.trans state, (spared.heads h).haltReason.trans reason⟩

end pressure

/-! ### Torque -/

/-- A dwell gathers the sample. -/
theorem State.torqueSample_dwell (s : State) (p : PlatenIx) (v : Int) (ha : s.conds[p.val].arm = .sweeping) :
    (s.torqueSample p v).conds[p.val].torqueSum = s.conds[p.val].torqueSum + v
      ∧ (s.torqueSample p v).conds[p.val].torqueCount = s.conds[p.val].torqueCount + 1 := by
  simp only [State.torqueSample, State.modCond_conds, get_set, if_true, if_pos ha, and_self]

/-- Outside a dwell it passes by. -/
theorem State.torqueSample_rest (s : State) (p : PlatenIx) (v : Int) (ha : s.conds[p.val].arm ≠ .sweeping) :
    (s.torqueSample p v).conds = s.conds := by
  simp only [State.torqueSample, State.modCond_conds, if_neg ha, Vector.set_getElem_self]

/-! ### The entry to FAULTED, as a sample of the flow makes it -/

/-- What the entry to FAULTED does: to the line, to its admitted doses, to the heads that lose theirs, and its notice (R103). -/
theorem State.faultLine_outcome (s : State) (l : LineIx) (v : Int) :
    ((s.faultLine l v).lines[l.val].state = .faulted ∧ (s.faultLine l v).lines[l.val].admitted = s.lines[l.val].admitted
        ∧ (s.faultLine l v).lines[l.val].primeDue = none ∧ (s.faultLine l v).lines[l.val].faultSince = none
        ∧ (s.faultLine l v).lines[l.val].queues = s.lines[l.val].queues)
      ∧ (∀ r ∈ s.lines[l.val].admitted, (s.faultLine l v).recs[r.val].state.live = false
          ∧ (s.recs[r.val].state.live = true →
              (s.faultLine l v).recs[r.val] = { s.recs[r.val] with state := .closing, reason := some .lineFault, since := s.now }))
      ∧ (∀ (h : HeadIx) r, s.heads[h.val].dose = some r → r ∈ s.lines[l.val].admitted → s.recs[r.val].state.live = true →
          ownerOf r = some h → s.heads[h.val].state.works = true →
          (s.faultLine l v).heads[h.val].state = .halted ∧ (s.faultLine l v).heads[h.val].haltReason = some .slurryLost)
      ∧ (s.link.tx.isSome = true → s.link.notices.length + 9 ≤ 32 → (s.faultLine l v).link.notices.getLast?
          = some (.lineFault l s.lines[l.val].state (s.pumpRate l) v (s.liveDoses l).length)) := by
  refine ⟨?_, fun r hr => ?_, fun h r hd hr hl ho hs => s.faultLine_halts l v h r ho hr hl hd hs, s.faultLine_notice l v⟩
  · rw [s.faultLine_line l v]
    exact ⟨rfl, rfl, rfl, rfl, rfl⟩
  · rw [s.faultLine_rec l v r hr]
    split
    · exact ⟨rfl, fun _ => rfl⟩
    · next dead => exact ⟨Bool.eq_false_iff.mpr dead, fun live => absurd live dead⟩

/-- Settles O55: the source feeds one check and beside it nothing that the check reads or moves; the check then has its three
outcomes. A fault's loop of closings halts each losing head at its own dose's turn, and a halt posts at most two notices. -/
theorem samplesFeedSupervisionFlowCheckAndDwell : Obligations.SamplesFeedSupervisionFlowCheckAndDwell := by
  intro s raw order hr
  refine ⟨fun h z since hw ht hn => ?_, fun l since hw hc => ?_, fun p hw => ?_⟩
  · refine ⟨_, exec_sourceSample s _ raw order hr, fun hv => ?_, fun hv hd time => ?_, fun hv hd time => ?_, fun hv hd time => ?_⟩
    · exact s.sample_pressure_calm h z raw.toNat order hw ht hv
    · have runs := s.sample_pressure_runs h z raw.toNat order hw ht hv (by rw [hd, Option.getD_none, Nat.sub_self]; exact time)
      rw [hd] at runs
      exact runs
    · have runs := s.sample_pressure_runs h z raw.toNat order hw ht hv (by rw [hd]; exact time)
      rw [hd] at runs
      exact runs
    · exact s.sample_pressure_halts h z raw.toNat order hw ht hv (by rw [hd]; exact time) hn
  · obtain ⟨hub₁, hub₂, e⟩ := s.sample_flow l raw.toNat order hw
    let t : State := { s with now := max s.now (s.sampleDue (.flow l)), hub := hub₁ }
    refine ⟨_, (exec_sourceSample s _ raw order hr).trans (congrArg Host.Outcome.next e), fun hv => ?_, fun hv hd time => ?_,
      fun hv hd time => ?_⟩
    · exact t.flowSample_calm l _ hc (mt (flowFault_iff _ _ _).mp hv)
    · have runs := t.flowSample_runs l _ hc ((flowFault_iff _ _ _).mpr hv) (by
        rw [show t.lines[l.val].faultSince = none from hd, Option.getD_none, Nat.sub_self]; exact time)
      rw [show t.lines[l.val].faultSince = none from hd] at runs
      exact runs
    · have faults := t.flowSample_faults l (s.hub.channels[29 + l.val].cal.scale raw.toNat) hc ((flowFault_iff _ _ _).mpr hv) (by
        rw [show t.lines[l.val].faultSince = some since from hd]; exact time)
      obtain ⟨⟨state, admitted, prime, timer, queues⟩, closed, halted, notice⟩ :=
        t.faultLine_outcome l (s.hub.channels[29 + l.val].cal.scale raw.toNat)
      rw [← faults] at state admitted prime timer queues closed halted notice
      refine ⟨state, admitted, prime, timer, fun _ => queues, fun r hr => ⟨(closed r hr).1, fun live _ => (closed r hr).2 live⟩,
        fun h r hd hr live ⟨_, _, _, owned⟩ works => halted h r hd hr live (owned h r hd) works, fun ht room => ?_⟩
      simp only [← DoseState.live_iff]
      exact notice ht room
  · obtain ⟨hub₁, hub₂, e⟩ := s.sample_torque p raw.toNat order hw
    refine ⟨_, (exec_sourceSample s _ raw order hr).trans (congrArg Host.Outcome.next e), rfl, rfl, fun ha => ?_, fun ha => ?_⟩
    · exact State.torqueSample_dwell _ p _ ha
    · exact State.torqueSample_rest _ p _ ha

end Sys2Proof.Machine
end

section
/-! Admission: the class choice and the attempt, said once for every relation that their steps keep (R89 to R94). -/

namespace Sys2Proof.Machine

/-! ### The class choice -/

theorem mem_classesDown (c : ClassIx) : c ∈ classesDown := by
  revert c
  decide

/-- A candidate is an eligible record of its class queue. -/
theorem State.candidate_some {s : State} {l : LineIx} {c : ClassIx} {r : RecIx} (e : s.candidate l c = some r) :
    r ∈ s.lines[l.val].queues[c.val] ∧ s.eligible r = true :=
  ⟨List.mem_of_find?_eq_some e, List.find?_some e⟩

/-- An eligible record is directed to a platen. -/
theorem State.platen_of_eligible {s : State} {r : RecIx} (e : s.eligible r = true) : ∃ p, s.recs[r.val].platen = some p := by
  unfold State.eligible at e
  split at e
  · cases e
  · next p hp => exact ⟨p, hp⟩

theorem State.highest_some {s : State} {l : LineIx} {ok : ClassIx → Bool} {c : ClassIx} {r : RecIx}
    (e : s.highest l ok = some (c, r)) : ok c = true ∧ s.candidate l c = some r := by
  obtain ⟨k, -, hk⟩ := List.exists_of_findSome?_eq_some e
  split at hk
  · next hok =>
    obtain ⟨x, hx, e'⟩ := Option.map_eq_some_iff.mp hk
    cases e'
    exact ⟨hok, hx⟩
  · cases hk

theorem State.highest_none {s : State} {l : LineIx} {ok : ClassIx → Bool} :
    s.highest l ok = none ↔ ∀ c, ok c = true → s.candidate l c = none := by
  unfold State.highest
  rw [List.findSome?_eq_none_iff]
  refine ⟨fun h c hc => ?_, fun h c _ => ?_⟩
  · simpa [hc] using h c (mem_classesDown c)
  · split
    · next hc => rw [h c hc]; rfl
    · rfl

@[simp] theorem State.reloadCredits_candidate (s : State) (l : LineIx) (c : ClassIx) :
    (s.reloadCredits l).candidate l c = s.candidate l c := by
  have e : (s.reloadCredits l).lines[l.val].queues = s.lines[l.val].queues := by simp [State.reloadCredits]
  unfold State.candidate
  rw [e]
  rfl

/-- A class choice changes nothing but the credits of its line. -/
theorem State.choose_state (s : State) (l : LineIx) : (s.choose l).1 = s ∨ (s.choose l).1 = s.reloadCredits l := by
  unfold State.choose
  split
  · exact .inl rfl
  · split
    · exact .inl rfl
    · split
      · exact .inr rfl
      · exact .inl rfl

/-- What is chosen is the candidate of its class. -/
theorem State.choose_some {s : State} {l : LineIx} {c : ClassIx} {r : RecIx} (e : (s.choose l).2 = some (c, r)) :
    s.candidate l c = some r := by
  unfold State.choose at e
  split at e
  · exact (State.highest_some (ok := fun _ => true) e).2
  · split at e
    · next x hx =>
      cases e
      exact (State.highest_some hx).2
    · split at e
      · dsimp only at e
        exact (s.reloadCredits_candidate l c).symm.trans (State.highest_some e).2
      · cases e

/-- With weights of at least 1, nothing is chosen only where no class has a candidate. -/
theorem State.choose_none {s : State} {l : LineIx} (hw : ∀ c : ClassIx, 0 < s.lines[l.val].config.weights[c.val])
    (e : (s.choose l).2 = none) (c : ClassIx) : s.candidate l c = none := by
  unfold State.choose at e
  split at e
  · exact (State.highest_none (ok := fun _ => true)).mp e c rfl
  · split at e
    · cases e
    · split at e
      · dsimp only at e
        have reloaded : (s.reloadCredits l).lines[l.val].credits = s.lines[l.val].config.weights := by simp [State.reloadCredits]
        rw [← s.reloadCredits_candidate l c]
        refine State.highest_none.mp e c ?_
        rw [reloaded]
        exact decide_eq_true (hw c)
      · next hc => exact State.highest_none.mp (Option.not_isSome_iff_eq_none.mp hc) c rfl

/-! ### The steps of an attempt -/

/-- A relation that is reflexive and transitive, and that a change of credits or of the stopped-at record and every admission of a
candidate keep, is kept by an attempt. -/
theorem State.attempt_rel {R : State → State → Prop} (l : LineIx) (refl : ∀ s, R s s) (trans : ∀ {a b c}, R a b → R b c → R a c)
    (line : ∀ (s : State) (x : Vector Nat 4) (y : Option RecIx), R s (s.modLine l fun c => { c with credits := x, stoppedAt := y }))
    (take : ∀ (s : State) (c : ClassIx) (r : RecIx) (p : PlatenIx), s.candidate l c = some r → R s (s.admitDose l c r p))
    (s : State) : R s (s.attempt l) := by
  have chosen : ∀ s : State, R s (s.choose l).1 := fun s => by
    rcases s.choose_state l with e | e
    · rw [e]
      exact refl s
    · rw [e]
      exact line s s.lines[l.val].config.weights s.lines[l.val].stoppedAt
  have same : ∀ (s : State) (c : ClassIx), (s.choose l).1.candidate l c = s.candidate l c := fun s c => by
    rcases s.choose_state l with e | e <;> rw [e]
    exact s.reloadCredits_candidate l c
  have many : ∀ (fuel : Nat) (s : State), R s (State.admitMany l fuel s) := fun fuel => by
    induction fuel with
    | zero => exact refl
    | succ n ih =>
      intro s
      have h := chosen s
      have cand := fun c r => State.choose_some (s := s) (l := l) (c := c) (r := r)
      have hsame := same s
      unfold State.admitMany
      split
      · next e => rw [e] at h; exact h
      · next v c r e =>
        rw [e] at h hsame cand
        split
        · exact h
        · split
          · exact trans (trans h (take v c r _ ((hsame c).trans (cand c r rfl)))) (ih _)
          · exact trans h (line v v.lines[l.val].credits (some r))
  have cleared : R s (s.modLine l fun n => { n with stoppedAt := none }) := line s s.lines[l.val].credits none
  unfold State.attempt
  dsimp only
  split
  · exact trans cleared (many _ _)
  · exact cleared

/-- The same of a platen's round. -/
theorem State.round_rel {R : State → State → Prop} (refl : ∀ s, R s s) (trans : ∀ {a b c}, R a b → R b c → R a c)
    (attempt : ∀ (s : State) (l : LineIx), R s (s.attempt l)) (s : State) (p : PlatenIx) (asked : State → LineIx → Bool) :
    R s (s.round p asked) := by
  refine forEach_rel refl trans _ _ (fun l s => ?_) s
  split
  · exact attempt s l
  · exact refl s

/-! ### Records and platens under admissions -/

/-- Whether a record is eligible rests on its platen, its service flag and the modes alone. -/
theorem State.eligible_congr {s t : State} {r : RecIx} (hp : t.recs[r.val].platen = s.recs[r.val].platen)
    (hs : t.recs[r.val].service = s.recs[r.val].service) (hm : ∀ p : PlatenIx, t.platens[p.val].mode = s.platens[p.val].mode) :
    t.eligible r = s.eligible r := by
  unfold State.eligible
  rw [hp, hs]
  cases s.recs[r.val].platen with
  | none => rfl
  | some p => exact congrArg (permitted · _) (hm p)

/-- What admissions do to records and platens: a record stays, or was eligible and opens at the present moment; a platen's
reservation grows at most. -/
structure State.Admits (s t : State) : Prop where
  now : t.now = s.now
  eligible : ∀ r : RecIx, t.eligible r = s.eligible r
  recs : ∀ r : RecIx, t.recs[r.val] = s.recs[r.val]
    ∨ (s.eligible r = true ∧ t.recs[r.val] = { s.recs[r.val] with state := .opening, since := s.now })
  reservation : ∀ p : PlatenIx, s.platens[p.val].reservation ≤ t.platens[p.val].reservation

theorem State.Admits.refl (s : State) : s.Admits s := ⟨rfl, fun _ => rfl, fun _ => .inl rfl, fun _ => Nat.le_refl _⟩

theorem State.Admits.trans {a b c : State} (h : a.Admits b) (k : b.Admits c) : a.Admits c where
  now := k.now.trans h.now
  eligible r := (k.eligible r).trans (h.eligible r)
  recs r := by
    have hk := k.recs r
    rw [h.eligible r, h.now] at hk
    rcases h.recs r with e | ⟨x, e⟩ <;> rw [e] at hk
    · exact hk
    · exact hk.elim (fun e' => .inr ⟨x, e'⟩) (fun e' => .inr ⟨x, e'.2⟩)
  reservation p := (h.reservation p).trans (k.reservation p)

theorem State.admitDose_recs_eq (s : State) (l : LineIx) (c : ClassIx) (r : RecIx) (p : PlatenIx) :
    (s.admitDose l c r p).recs = s.recs.set r.val { s.recs[r.val] with state := .opening, since := s.now } := by
  simp [State.admitDose]

theorem State.admitDose_admits (s : State) (l : LineIx) (c : ClassIx) (r : RecIx) (p : PlatenIx) (e : s.eligible r = true) :
    s.Admits (s.admitDose l c r p) where
  now := (s.admitDose_keeps l c r p).now
  eligible k := by
    refine State.eligible_congr ?_ ?_ (s.admitDose_keeps l c r p).modes <;>
      simp only [State.admitDose_recs_eq, get_set] <;> split <;> simp_all
  recs k := by
    simp only [State.admitDose_recs_eq, get_set]
    split
    · next h => subst h; exact .inr ⟨e, rfl⟩
    · exact .inl rfl
  reservation k := by
    simp only [State.admitDose, State.settleCheck_platens, State.modRec_platens, State.modPlaten_platens, State.modLine_platens, get_set]
    split
    · next h => subst h; exact Nat.le_add_right _ _
    · exact Nat.le_refl _

theorem State.attempt_admits (s : State) (l : LineIx) : s.Admits (s.attempt l) :=
  State.attempt_rel l .refl .trans (fun s _ _ => { State.Admits.refl s with })
    (fun s c r p e => s.admitDose_admits l c r p (State.candidate_some e).2) s

theorem State.round_admits (s : State) (p : PlatenIx) (asked : State → LineIx → Bool) : s.Admits (s.round p asked) :=
  State.round_rel .refl .trans State.attempt_admits s p asked

/-! ### The lines under admissions -/

/-- A check of the flow leaves every item of a line but its fault timer. -/
theorem State.settleCheck_line_eq (s : State) (l k : LineIx) :
    ∃ x, (s.settleCheck l).lines[k.val] = { s.lines[k.val] with faultSince := x } := by
  unfold State.settleCheck
  split
  · exact ⟨_, rfl⟩
  · simp only [State.modLine_lines, get_set]
    split
    · next e => subst e; exact ⟨none, rfl⟩
    · exact ⟨_, rfl⟩

/-- What an admission makes of its line: every item it names, and a fault timer. -/
theorem State.admitDose_line (s : State) (l : LineIx) (c : ClassIx) (r : RecIx) (p : PlatenIx) :
    ∃ x, (s.admitDose l c r p).lines[l.val] =
      { s.lines[l.val] with
        queues := s.lines[l.val].queues.set c.val (s.lines[l.val].queues[c.val].erase r)
        admitted := s.lines[l.val].admitted ++ [r]
        reservation := s.lines[l.val].reservation + s.recs[r.val].peak
        credits := if s.lines[l.val].config.scheme = .weighted then s.lines[l.val].credits.set c.val (s.lines[l.val].credits[c.val] - 1)
          else s.lines[l.val].credits
        state := if s.lines[l.val].state = .priming then .ready else s.lines[l.val].state
        primeDue := if s.lines[l.val].state = .priming then none else s.lines[l.val].primeDue
        faultSince := x } := by
  unfold State.admitDose
  obtain ⟨x, hx⟩ := State.settleCheck_line_eq _ l l
  exact ⟨x, hx.trans (by simp)⟩

/-- Each line is in the state it was in, or was PRIMING and is READY. -/
def State.ServesOn (s t : State) : Prop := ∀ l : LineIx, t.lines[l.val].state = s.lines[l.val].state
  ∨ (s.lines[l.val].state = .priming ∧ t.lines[l.val].state = .ready)

theorem State.ServesOn.refl (s : State) : s.ServesOn s := fun _ => .inl rfl

theorem State.ServesOn.trans {a b c : State} (h : a.ServesOn b) (k : b.ServesOn c) : a.ServesOn c := fun l => by
  have hk := k l
  rcases h l with e | ⟨x, e⟩ <;> rw [e] at hk
  · exact hk
  · exact hk.elim (fun e' => .inr ⟨x, e'⟩) (fun e' => .inr ⟨x, e'.2⟩)

theorem State.ServesOn.of_lines {s t : State} (e : t.lines = s.lines) : s.ServesOn t := fun _ => .inl (by rw [e])

/-- A line that is READY or PRIMING stays so. -/
theorem State.ServesOn.inService {s t : State} (h : s.ServesOn t) {l : LineIx}
    (k : s.lines[l.val].state = .ready ∨ s.lines[l.val].state = .priming) :
    t.lines[l.val].state = .ready ∨ t.lines[l.val].state = .priming := by
  rcases h l with e | ⟨-, e⟩
  · rw [e]
    exact k
  · exact .inl e

theorem State.modLine_servesOn (s : State) (l : LineIx) (f : Line → Line) (hf : (f s.lines[l.val]).state = s.lines[l.val].state) :
    s.ServesOn (s.modLine l f) := fun k => .inl (by
  simp only [State.modLine_lines, get_set]
  split
  · next e => subst e; exact hf
  · rfl)

theorem State.settleCheck_servesOn (s : State) (l : LineIx) : s.ServesOn (s.settleCheck l) := fun k => .inl (by
  obtain ⟨x, hx⟩ := s.settleCheck_line_eq l k
  rw [hx])

theorem State.admitDose_servesOn (s : State) (l : LineIx) (c : ClassIx) (r : RecIx) (p : PlatenIx) :
    s.ServesOn (s.admitDose l c r p) := fun k => by
  by_cases e : k = l
  · subst e
    obtain ⟨x, hx⟩ := s.admitDose_line k c r p
    rw [hx]
    dsimp only
    split
    · next hp => exact .inr ⟨hp, rfl⟩
    · exact .inl rfl
  · exact .inl (by rw [s.admitDose_only l c r p k e])

theorem State.attempt_servesOn (s : State) (l : LineIx) : s.ServesOn (s.attempt l) :=
  State.attempt_rel l .refl .trans (fun s _ _ => s.modLine_servesOn l _ rfl) (fun s c r p _ => s.admitDose_servesOn l c r p) s

/-! ### An attempt exhausts its line -/

theorem State.admitDose_queued_length (s : State) (l : LineIx) (c : ClassIx) (r : RecIx) (p : PlatenIx)
    (hr : r ∈ s.lines[l.val].queues[c.val]) :
    (s.admitDose l c r p).lines[l.val].queued.length + 1 = s.lines[l.val].queued.length := by
  obtain ⟨x, hx⟩ := s.admitDose_line l c r p
  have shorter := List.length_erase_of_mem hr
  have pos := List.length_pos_of_mem hr
  rw [hx]
  fin_cases c <;> simp [Line.queued] at * <;> omega

/-- Enough steps of an attempt leave nothing the line could take (R89, R93, R94). -/
theorem State.admitMany_exhausts (l : LineIx) (fuel : Nat) (s : State) (hl : s.lines[l.val].queued.length < fuel)
    (hw : ∀ c : ClassIx, 0 < s.lines[l.val].config.weights[c.val]) (hn : s.lines[l.val].stoppedAt = none) :
    (State.admitMany l fuel s).Exhausted l := by
  induction fuel generalizing s with
  | zero => omega
  | succ n ih =>
    have unchosen := State.choose_none hw
    have cand := fun c r => State.choose_some (s := s) (l := l) (c := c) (r := r)
    have kept : (s.choose l).1.lines[l.val].queues = s.lines[l.val].queues ∧ (s.choose l).1.lines[l.val].config = s.lines[l.val].config
        ∧ (s.choose l).1.lines[l.val].stoppedAt = s.lines[l.val].stoppedAt
        ∧ ∀ c, (s.choose l).1.candidate l c = s.candidate l c := by
      rcases s.choose_state l with e | e <;> rw [e]
      · exact ⟨rfl, rfl, rfl, fun _ => rfl⟩
      · exact ⟨by simp [State.reloadCredits], by simp [State.reloadCredits], by simp [State.reloadCredits],
          s.reloadCredits_candidate l⟩
    unfold State.admitMany
    split
    · next v e =>
      rw [e] at unchosen kept
      obtain ⟨-, -, hst, hcand⟩ := kept
      exact .inl ⟨hst.trans hn, fun c => (hcand c).trans (unchosen rfl c)⟩
    · next v c r e =>
      rw [e] at kept cand
      obtain ⟨hq, hc, hst, hcand⟩ := kept
      obtain ⟨mem, el⟩ := State.candidate_some ((hcand c).trans (cand c r rfl))
      split
      · next hp =>
        obtain ⟨p, hp'⟩ := State.platen_of_eligible el
        rw [hp] at hp'
        cases hp'
      · next p hp =>
        split
        · obtain ⟨x, hx⟩ := v.admitDose_line l c r p
          have shorter := v.admitDose_queued_length l c r p mem
          have same : v.lines[l.val].queued = s.lines[l.val].queued := by simp only [Line.queued, hq]
          refine ih _ (by rw [same] at shorter; omega) (fun k => ?_) ?_
          · rw [hx]
            dsimp only
            rw [hc]
            exact hw k
          · rw [hx]
            exact hst.trans hn
        · next hf =>
          refine .inr ⟨r, by simp, fun q hq' => ?_⟩
          rw [State.modLine_recs, hp] at hq'
          cases hq'
          simp only [State.fits, Bool.and_eq_true, decide_eq_true_eq, not_and_or, Nat.not_le] at hf
          simpa using hf

/-- After its attempt a line in service has nothing more to take. -/
theorem State.attempt_exhausts (s : State) (l : LineIx) (hs : s.stop = false)
    (hl : s.lines[l.val].state = .ready ∨ s.lines[l.val].state = .priming)
    (hw : ∀ c : ClassIx, 0 < s.lines[l.val].config.weights[c.val]) : (s.attempt l).Exhausted l := by
  have admits : (s.modLine l fun n => { n with stoppedAt := none }).admits l = true := by
    simp [State.admits, hs]
    exact hl
  unfold State.attempt
  dsimp only
  rw [if_pos admits]
  refine State.admitMany_exhausts l _ _ (Nat.lt_succ_self _) (fun c => ?_) (by simp)
  simpa using hw c

/-- The attempts of other lines leave an exhausted line exhausted: they only add to what stops it. -/
theorem State.Exhausted.attempt {s : State} {l k : LineIx} (h : s.Exhausted l) (ne : l ≠ k) : (s.attempt k).Exhausted l := by
  have line := s.attempt_only k l ne
  have a := s.attempt_admits k
  have config := (s.attempt_keeps k).platenConfig
  rcases h with ⟨hn, hc⟩ | ⟨r, hr, hf⟩
  · refine .inl ⟨line ▸ hn, fun c => ?_⟩
    have := hc c
    unfold State.candidate at this ⊢
    rw [line, funext a.eligible]
    exact this
  · refine .inr ⟨r, line ▸ hr, fun p hp => ?_⟩
    have same : (s.attempt k).recs[r.val].peak = s.recs[r.val].peak ∧ (s.attempt k).recs[r.val].platen = s.recs[r.val].platen := by
      rcases a.recs r with e | ⟨-, e⟩ <;> rw [e] <;> exact ⟨rfl, rfl⟩
    have grown := a.reservation p
    rw [line, same.1, config p]
    have := hf p (same.2 ▸ hp)
    omega

/-- The lines of a round: each once, from the pointer on. -/
theorem round_split (n l : LineIx) : ∃ before after, [n, n + 1, n + 2, n + 3] = before ++ l :: after ∧ l ∉ after := by
  obtain ⟨before, after, e⟩ := List.append_of_mem (show l ∈ [n, n + 1, n + 2, n + 3] by revert n l; decide)
  have once : ∀ n : LineIx, [n, n + 1, n + 2, n + 3].Nodup := by decide
  have once := once n
  rw [e, List.nodup_append] at once
  exact ⟨before, after, e, (List.nodup_cons.mp once.2.1).1⟩

/-- A round that asks every line leaves every line in service exhausted (R56). -/
theorem State.round_exhausts (s : State) (p : PlatenIx) (l : LineIx) (hs : s.stop = false)
    (hl : s.lines[l.val].state = .ready ∨ s.lines[l.val].state = .priming)
    (hw : ∀ c : ClassIx, 0 < s.lines[l.val].config.weights[c.val]) : (s.round p fun _ _ => true).Exhausted l := by
  obtain ⟨before, after, e, last⟩ := round_split s.platens[p.val].nextLine l
  have asked : ∀ (xs : List LineIx) (t : State), forEach xs (fun l s => if true = true then s.attempt l else s) t
      = forEach xs (fun l s => s.attempt l) t := fun xs t => by simp
  have rest : ∀ (xs : List LineIx) (t : State), l ∉ xs → t.Exhausted l → (forEach xs (fun l s => s.attempt l) t).Exhausted l :=
    fun xs => by
      induction xs with
      | nil => exact fun _ _ h => h
      | cons k xs ih =>
        exact fun t hk h => ih _ (fun c => hk (List.mem_cons_of_mem _ c)) (h.attempt fun c => hk (c ▸ List.mem_cons_self ..))
  unfold State.round
  dsimp only
  rw [e, asked, forEach_append, forEach_cons]
  refine rest after _ last ?_
  have keeps := forEach_rel State.KeepsAllButLines.refl State.KeepsAllButLines.trans before (fun l s => s.attempt l)
    (fun l s => s.attempt_keeps l) s
  have serves := forEach_rel State.ServesOn.refl State.ServesOn.trans before (fun l s => s.attempt l)
    (fun l s => s.attempt_servesOn l) s
  exact State.attempt_exhausts _ l (keeps.stop.trans hs) (serves.inService hl) (fun c => by rw [keeps.lineConfig l]; exact hw c)

/-! ### Admissions and the link -/

theorem State.choose_modLink (s : State) (l : LineIx) (f : Link → Link) :
    (s.modLink f).choose l = ((s.choose l).1.modLink f, (s.choose l).2) := by
  have highest : ∀ ok, (s.modLink f).highest l ok = s.highest l ok := fun _ => rfl
  have credits : ((s.modLink f).highest l fun c => 0 < (s.modLink f).lines[l.val].credits[c.val])
      = s.highest l fun c => 0 < s.lines[l.val].credits[c.val] := rfl
  cases e : s.lines[l.val].config.scheme with
  | strict => simp only [State.choose, show (s.modLink f).lines[l.val].config.scheme = .strict from e, e, highest]
  | weighted =>
    simp only [State.choose, show (s.modLink f).lines[l.val].config.scheme = .weighted from e, e, credits]
    cases s.highest l fun c => 0 < s.lines[l.val].credits[c.val] with
    | some x => rfl
    | none =>
      simp only [highest]
      split <;> rfl

theorem State.settleCheck_modLink (s : State) (l : LineIx) (f : Link → Link) :
    (s.modLink f).settleCheck l = (s.settleCheck l).modLink f := by
  have runs : (s.modLink f).checkRuns l = s.checkRuns l := rfl
  unfold State.settleCheck
  rw [runs]
  split <;> rfl

theorem State.admitDose_modLink (s : State) (l : LineIx) (c : ClassIx) (r : RecIx) (p : PlatenIx) (f : Link → Link) :
    (s.modLink f).admitDose l c r p = (s.admitDose l c r p).modLink f := by
  unfold State.admitDose
  rw [← State.settleCheck_modLink]
  rfl

theorem State.admitMany_modLink (l : LineIx) (fuel : Nat) (s : State) (f : Link → Link) :
    State.admitMany l fuel (s.modLink f) = (State.admitMany l fuel s).modLink f := by
  induction fuel generalizing s with
  | zero => rfl
  | succ n ih =>
    unfold State.admitMany
    rw [s.choose_modLink l f]
    rcases s.choose l with ⟨v, _ | ⟨c, r⟩⟩
    · rfl
    · have fits : ∀ p, (v.modLink f).fits l p r = v.fits l p r := fun _ => rfl
      simp only [State.modLink_recs, fits, State.admitDose_modLink, ih]
      cases v.recs[r.val].platen with
      | none => rfl
      | some p =>
        dsimp only
        split <;> rfl

/-- An attempt neither reads nor writes the link. -/
theorem State.attempt_modLink (s : State) (l : LineIx) (f : Link → Link) : (s.modLink f).attempt l = (s.attempt l).modLink f := by
  unfold State.attempt
  have cleared : (s.modLink f).modLine l (fun n => { n with stoppedAt := none })
      = (s.modLine l fun n => { n with stoppedAt := none }).modLink f := rfl
  have admits : ∀ t : State, (t.modLink f).admits l = t.admits l := fun _ => rfl
  dsimp only
  rw [cleared, admits, State.admitMany_modLink]
  split <;> rfl

/-- Nor does a round whose question does not read it. -/
theorem State.round_modLink (s : State) (p : PlatenIx) (asked : State → LineIx → Bool) (f : Link → Link)
    (ha : ∀ (s : State) (l : LineIx), asked (s.modLink f) l = asked s l) :
    (s.modLink f).round p asked = (s.round p asked).modLink f := by
  have loop : ∀ (xs : List LineIx) (s : State), forEach xs (fun l s => if asked s l then s.attempt l else s) (s.modLink f)
      = (forEach xs (fun l s => if asked s l then s.attempt l else s) s).modLink f := fun xs => by
    induction xs with
    | nil => exact fun _ => rfl
    | cons l xs ih =>
      intro s
      rw [forEach_cons, forEach_cons, ← ih, ha, State.attempt_modLink]
      split <;> rfl
  exact loop _ s

end Sys2Proof.Machine
end

section
/-! The Dose Pool: each operation of admission, closing and giving up leaves every record in the place its state names (R63, R87). -/

namespace Sys2Proof.Machine

/-! ### A record that moves from place to place -/

/-- A record `r` that is not free before or after has moved, every other record standing where it stood. -/
structure State.Relocates (r : RecIx) (s t : State) : Prop where
  recs : ∀ k : RecIx, k ≠ r → t.recs[k.val] = s.recs[k.val]
  free : t.free = s.free ∧ r ∉ s.free
  queues : ∀ k : RecIx, k ≠ r → ∀ (l : LineIx) (c : ClassIx),
    k ∈ t.lines[l.val].queues[c.val] ↔ k ∈ s.lines[l.val].queues[c.val]
  admitted : ∀ k : RecIx, k ≠ r → ∀ l : LineIx, k ∈ t.lines[l.val].admitted ↔ k ∈ s.lines[l.val].admitted
  nodup : ∀ l : LineIx, t.lines[l.val].admitted.Nodup ∧ ∀ c : ClassIx, t.lines[l.val].queues[c.val].Nodup
  doses : ∀ (h : HeadIx) (k : RecIx), t.heads[h.val].dose = some k → ownerOf k = some h
  placed : t.Placed r

theorem State.PoolWellKept.relocates {s t : State} {r : RecIx} (h : s.PoolWellKept) (m : State.Relocates r s t) :
    t.PoolWellKept := by
  obtain ⟨placed, free, -, -⟩ := h
  refine ⟨fun k => ?_, m.free.1 ▸ free, m.nodup, m.doses⟩
  by_cases e : k = r
  · exact e ▸ m.placed
  · have hk := placed k
    unfold State.Placed at hk ⊢
    rw [m.recs k e, m.free.1]
    simp only [m.queues k e, m.admitted k e]
    exact hk

/-- The places rest on the records, the free list, the lines' queues and admitted sets and the heads' doses alone. -/
theorem State.PoolWellKept.congr {s t : State} (h : s.PoolWellKept) (hr : t.recs = s.recs) (hf : t.free = s.free)
    (hl : ∀ l : LineIx, t.lines[l.val].queues = s.lines[l.val].queues ∧ t.lines[l.val].admitted = s.lines[l.val].admitted)
    (hd : ∀ (k : HeadIx) (r : RecIx), t.heads[k.val].dose = some r → ownerOf r = some k) : t.PoolWellKept := by
  obtain ⟨placed, free, nodup, -⟩ := h
  refine ⟨fun k => ?_, hf ▸ free, fun l => ?_, hd⟩
  · have hk := placed k
    unfold State.Placed at hk ⊢
    simp only [hr, hf, hl]
    exact hk
  · simp only [hl]
    exact nodup l

section places

variable {s : State} (hs : s.PoolWellKept)
include hs

/-- A queued record is QUEUED, on the line and in the class of its queue. -/
theorem State.PoolWellKept.of_queued {l : LineIx} {c : ClassIx} {r : RecIx} (h : r ∈ s.lines[l.val].queues[c.val]) :
    s.recs[r.val].state = .queued ∧ s.recs[r.val].line = l ∧ s.recs[r.val].cls = c := by
  obtain ⟨-, -, -, queued, -, -⟩ := hs.1 r
  exact (queued l c).mp h

theorem State.PoolWellKept.mem_admitted {l : LineIx} {r : RecIx} :
    r ∈ s.lines[l.val].admitted ↔ s.recs[r.val].state.admitted = true ∧ s.recs[r.val].line = l := by
  obtain ⟨-, -, -, -, admitted, -⟩ := hs.1 r
  exact admitted l

theorem State.PoolWellKept.mem_free {r : RecIx} : r ∈ s.free ↔ s.recs[r.val].state = .free := (hs.1 r).1

/-- A head's dose is one of its own two records (R64). -/
theorem State.PoolWellKept.owner {h : HeadIx} {r : RecIx} (e : s.heads[h.val].dose = some r) : ownerOf r = some h :=
  hs.2.2.2 h r e

end places

/-- A change of one head that gives it no dose leaves every record in its place. -/
theorem State.modHead_pool (s : State) (h : HeadIx) (f : Head → Head)
    (hf : ∀ r, (f s.heads[h.val]).dose = some r → s.heads[h.val].dose = some r ∨ ownerOf r = some h) (hs : s.PoolWellKept) :
    (s.modHead h f).PoolWellKept := by
  refine hs.congr rfl rfl (fun _ => ⟨rfl, rfl⟩) fun k r e => ?_
  by_cases ne : k = h
  · subst ne
    rw [State.modHead_get] at e
    exact (hf r e).elim (fun e' => hs.owner e') id
  · rw [State.modHead_get_ne _ _ _ _ ne] at e
    exact hs.owner e

theorem State.modLine_pool (s : State) (l : LineIx) (f : Line → Line)
    (hf : (f s.lines[l.val]).queues = s.lines[l.val].queues ∧ (f s.lines[l.val]).admitted = s.lines[l.val].admitted)
    (hs : s.PoolWellKept) : (s.modLine l f).PoolWellKept := by
  refine hs.congr rfl rfl (fun k => ?_) fun _ _ e => hs.owner e
  simp only [State.modLine_lines, get_set]
  split
  · next e => subst e; exact hf
  · exact ⟨rfl, rfl⟩

/-! ### Admissions -/

theorem mem_queues_set (q : Vector (List RecIx) 4) (c j : ClassIx) (xs : List RecIx) (k : RecIx)
    (h : k ∈ xs ↔ k ∈ q[c.val]) : k ∈ (q.set c.val xs)[j.val] ↔ k ∈ q[j.val] := by
  rw [get_set]
  split
  · next e => subst e; exact h
  · exact Iff.rfl

/-- An admission moves its record from its queue to the admitted set of its line (R93). -/
theorem State.admitDose_relocates (s : State) (l : LineIx) (c : ClassIx) (r : RecIx) (p : PlatenIx) (hs : s.PoolWellKept)
    (hr : r ∈ s.lines[l.val].queues[c.val]) : State.Relocates r s (s.admitDose l c r p) := by
  obtain ⟨st, ln, cl⟩ := hs.of_queued hr
  obtain ⟨x, hx⟩ := s.admitDose_line l c r p
  have other := s.admitDose_only l c r p
  have heads := (s.admitDose_keeps l c r p).sameHeads
  have free := (s.admitDose_keeps l c r p).free
  have once := (hs.2.2.1 l).2
  have out : r ∉ s.lines[l.val].admitted := fun m => by
    have := (hs.mem_admitted.mp m).1
    rw [st] at this
    cases this
  have stays : r ∉ s.free := fun m => by rw [hs.mem_free, st] at m; cases m
  refine ⟨fun k ne => ?_, ⟨free, stays⟩, fun k ne j d => ?_, fun k ne j => ?_, fun j => ?_, fun h k e => ?_, ?_⟩
  · rw [State.admitDose_recs_eq, get_set, if_neg ne]
  · by_cases e : j = l
    · subst e
      rw [hx]
      exact mem_queues_set _ c d _ k (List.mem_erase_of_ne ne)
    · rw [other j e]
  · by_cases e : j = l
    · subst e
      rw [hx]
      simp [ne]
    · rw [other j e]
  · by_cases e : j = l
    · subst e
      rw [hx]
      refine ⟨List.nodup_append.mpr ⟨(hs.2.2.1 j).1, List.nodup_singleton r, fun a ha b hb ab => ?_⟩, fun d => ?_⟩
      · rw [List.mem_singleton.mp hb] at ab
        exact out (ab ▸ ha)
      · dsimp only
        rw [get_set]
        split
        · exact (once c).erase r
        · exact once d
    · rw [other j e]
      exact hs.2.2.1 j
  · rw [heads] at e
    exact hs.owner e
  · obtain ⟨hfree, -, -, hq, ha, hp⟩ := hs.1 r
    have now : (s.admitDose l c r p).recs[r.val] = { s.recs[r.val] with state := .opening, since := s.now } := by
      rw [State.admitDose_recs_eq, get_set, if_pos rfl]
    unfold State.Placed
    rw [now, free]
    refine ⟨by simp [stays], by simp, by simp, fun j d => ?_, fun j => ?_, fun _ => hp (by rw [st]; rfl)⟩
    · simp only [reduceCtorEq, false_and, iff_false]
      by_cases e : j = l
      · subst e
        rw [hx]
        dsimp only
        rw [get_set]
        split
        · exact fun m => (List.Nodup.mem_erase_iff (once c)).mp m |>.1 rfl
        · next ne => exact fun m => ne ((hs.of_queued m).2.2.symm.trans cl)
      · rw [other j e]
        exact fun m => e ((hs.of_queued m).2.1.symm.trans ln)
    · by_cases e : j = l
      · subst e
        rw [hx]
        simp [DoseState.admitted, ln]
      · rw [other j e, ha j, st]
        simp [DoseState.admitted, ln, Ne.symm e]

/-- What admissions do among records in their places: each stays in its place, and QUEUED records alone open. -/
structure State.OpensInPlace (s t : State) : Prop where
  now : t.now = s.now
  pool : s.PoolWellKept → t.PoolWellKept
  opens : s.PoolWellKept → s.OnlyOpens t

theorem State.OpensInPlace.refl (s : State) : s.OpensInPlace s := ⟨rfl, id, fun _ => Opened.refl _ _⟩

theorem State.OpensInPlace.trans {a b c : State} (h : a.OpensInPlace b) (k : b.OpensInPlace c) : a.OpensInPlace c :=
  ⟨k.now.trans h.now, fun x => k.pool (h.pool x), fun x => by
    have opened : Opened b.now b.recs c.recs := k.opens (h.pool x)
    exact Opened.trans (h.opens x) (h.now ▸ opened)⟩

theorem State.attempt_opensInPlace (s : State) (l : LineIx) : s.OpensInPlace (s.attempt l) :=
  State.attempt_rel l .refl .trans
    (fun s _ _ => ⟨rfl, s.modLine_pool l _ ⟨rfl, rfl⟩, fun _ => Opened.refl _ _⟩)
    (fun s c r p e =>
      have mem := (State.candidate_some e).1
      ⟨(s.admitDose_keeps l c r p).now, fun h => h.relocates (s.admitDose_relocates l c r p h mem),
        fun h => s.admitDose_recs l c r p (h.of_queued mem).1⟩) s

theorem State.round_opensInPlace (s : State) (p : PlatenIx) (asked : State → LineIx → Bool) : s.OpensInPlace (s.round p asked) :=
  State.round_rel .refl .trans State.attempt_opensInPlace s p asked

/-! ### Endings, submissions and doses given up -/

/-- A dose that is OPENING or FLOWING stands in an admitted set. -/
theorem DoseState.admitted_of_live {d : DoseState} (h : d.live = true) : d.admitted = true := by
  revert h
  cases d <;> decide

theorem DoseState.present_of_live {d : DoseState} (h : d.live = true) : d.present = true := by
  revert h
  cases d <;> decide

theorem State.settleCheck_pool (s : State) (l : LineIx) (hs : s.PoolWellKept) : (s.settleCheck l).PoolWellKept := by
  refine hs.congr (s.settleCheck_recs l) (s.settleCheck_keeps l).free (fun k => ?_) fun h r e => ?_
  · obtain ⟨x, hx⟩ := s.settleCheck_line_eq l k
    rw [hx]
    exact ⟨rfl, rfl⟩
  · rw [State.settleCheck_heads] at e
    exact hs.owner e

/-- A record CLOSING with its reason, the flow check of its line not yet settled. -/
def State.closingNow (s : State) (r : RecIx) (why : DoseReason) : State :=
  s.modRec r fun d => { d with state := .closing, reason := some why, since := s.now }

theorem State.close_of_live {s : State} {r : RecIx} (live : s.recs[r.val].state.live = true) (why : DoseReason) :
    s.close r why = (s.closingNow r why).settleCheck s.recs[r.val].line := if_pos live

theorem State.close_of_not_live {s : State} {r : RecIx} (dead : ¬ s.recs[r.val].state.live = true) (why : DoseReason) :
    s.close r why = s := if_neg dead

/-- OPENING, FLOWING and CLOSING share one place (R63). -/
theorem State.closingNow_relocates (s : State) (r : RecIx) (why : DoseReason) (hs : s.PoolWellKept)
    (live : s.recs[r.val].state.live = true) : State.Relocates r s (s.closingNow r why) := by
  have stays : r ∉ s.free := fun m => by
    rw [hs.mem_free] at m
    rw [m] at live
    cases live
  refine ⟨fun k ne => s.modRec_get_ne r _ k ne, ⟨rfl, stays⟩, fun _ _ _ _ => Iff.rfl, fun _ _ _ => Iff.rfl, hs.2.2.1,
    fun _ _ => hs.owner, ?_⟩
  obtain ⟨-, -, -, hq, ha, hp⟩ := hs.1 r
  unfold State.Placed State.closingNow
  rw [State.modRec_get]
  refine ⟨by simp [stays], by simp, by simp, fun l c => ?_, fun l => ?_, fun _ => hp (DoseState.present_of_live live)⟩
  · refine (hq l c).trans ⟨fun h => ?_, fun h => by cases h.1⟩
    rw [h.1] at live
    cases live
  · exact (ha l).trans (by rw [DoseState.admitted_of_live live]; rfl)

/-- An ending leaves every record in its place. -/
theorem State.close_pool (s : State) (r : RecIx) (why : DoseReason) (hs : s.PoolWellKept) : (s.close r why).PoolWellKept := by
  by_cases live : s.recs[r.val].state.live = true
  · rw [State.close_of_live live]
    exact State.settleCheck_pool _ _ (hs.relocates (s.closingNow_relocates r why hs live))
  · rw [State.close_of_not_live live]
    exact hs

/-- A QUEUED record of a head that gives it up: out of its queue, and IDLE (R71). -/
def State.withdraw (s : State) (r : RecIx) : State :=
  (s.unqueue r .released).modRec r fun d => { d with state := .idle, since := s.now }

theorem State.withdraw_keeps (s : State) (r : RecIx) : s.KeepsAllButLines (s.withdraw r) :=
  (s.unqueue_keeps r _).trans (State.modRec_keeps _ _ _)

theorem State.withdraw_rec (s : State) (r k : RecIx) : (s.withdraw r).recs[k.val]
    = if k = r then { s.recs[r.val] with state := .idle, reason := some .released, since := s.now } else s.recs[k.val] := by
  simp only [State.withdraw, State.unqueue, State.modRec_recs, State.modLine_recs, get_set, if_true]
  split <;> rfl

theorem State.withdraw_line (s : State) (r : RecIx) (l : LineIx) : (s.withdraw r).lines[l.val]
    = if l = s.recs[r.val].line then { s.lines[l.val] with
        queues := s.lines[l.val].queues.set s.recs[r.val].cls.val (s.lines[l.val].queues[s.recs[r.val].cls.val].erase r) }
      else s.lines[l.val] := by
  simp only [State.withdraw, State.unqueue, State.modRec_lines, State.modLine_lines, get_set]
  split
  · next e => rw [e]
  · rfl

theorem State.withdraw_relocates (s : State) (r : RecIx) (hs : s.PoolWellKept) (hr : r.val < 8)
    (hq : s.recs[r.val].state = .queued) : State.Relocates r s (s.withdraw r) := by
  have stays : r ∉ s.free := fun m => by rw [hs.mem_free, hq] at m; cases m
  have once := fun l => (hs.2.2.1 l).2
  refine ⟨fun k ne => ?_, ⟨rfl, stays⟩, fun k ne l c => ?_, fun k ne l => ?_, fun l => ?_, fun h k e => hs.owner e, ?_⟩
  · rw [State.withdraw_rec, if_neg ne]
  · rw [State.withdraw_line]
    split
    · exact mem_queues_set _ _ c _ k (List.mem_erase_of_ne ne)
    · exact Iff.rfl
  · rw [State.withdraw_line]
    split <;> exact Iff.rfl
  · rw [State.withdraw_line]
    split
    · refine ⟨(hs.2.2.1 l).1, fun c => ?_⟩
      dsimp only
      rw [get_set]
      split
      · exact (once l _).erase r
      · exact once l c
    · exact hs.2.2.1 l
  · obtain ⟨-, -, -, -, ha, -⟩ := hs.1 r
    unfold State.Placed
    rw [State.withdraw_rec, if_pos rfl]
    refine ⟨?_, by simp, fun _ => hr, fun l c => ?_, fun l => ?_, by simp [DoseState.present]⟩
    · simp only [reduceCtorEq, iff_false]
      exact stays
    · simp only [reduceCtorEq, false_and, iff_false]
      rw [State.withdraw_line]
      split
      · dsimp only
        rw [get_set]
        split
        · exact fun m => (List.Nodup.mem_erase_iff (once l _)).mp m |>.1 rfl
        · next ne => exact fun m => ne (hs.of_queued m).2.2.symm
      · next ne => exact fun m => ne (hs.of_queued m).2.1.symm
    · rw [State.withdraw_line]
      have out : r ∉ s.lines[l.val].admitted := fun m => by
        have := (hs.mem_admitted.mp m).1
        rw [hq] at this
        cases this
      split <;> simpa [DoseState.admitted] using out

theorem State.enqueue_rec (s : State) (r k : RecIx) (d : DoseRec) : (s.enqueue r d).recs[k.val]
    = if k = r then { d with state := .queued, sequence := nextSequence s.counter, since := s.now } else s.recs[k.val] := by
  simp only [State.enqueue, State.modRec_recs, State.modLine_recs, get_set]

theorem State.enqueue_line (s : State) (r : RecIx) (d : DoseRec) (l : LineIx) : (s.enqueue r d).lines[l.val]
    = if l = d.line then { s.lines[l.val] with
        queues := s.lines[l.val].queues.set d.cls.val (s.lines[l.val].queues[d.cls.val] ++ [r]) } else s.lines[l.val] := by
  simp only [State.enqueue, State.modLine_lines, get_set]
  split
  · next e => rw [e]; rfl
  · rfl

/-- An IDLE record submitted stands at the tail of its queue (R68). -/
theorem State.enqueue_relocates (s : State) (r : RecIx) (d : DoseRec) (hs : s.PoolWellKept) (hi : s.recs[r.val].state = .idle)
    (hp : d.platen.isSome = true) : State.Relocates r s (s.enqueue r d) := by
  have stays : r ∉ s.free := fun m => by rw [hs.mem_free, hi] at m; cases m
  have unqueued : ∀ (l : LineIx) (c : ClassIx), r ∉ s.lines[l.val].queues[c.val] := fun l c m => by
    have := (hs.of_queued m).1
    rw [hi] at this
    cases this
  have out : ∀ l : LineIx, r ∉ s.lines[l.val].admitted := fun l m => by
    have := (hs.mem_admitted.mp m).1
    rw [hi] at this
    cases this
  refine ⟨fun k ne => ?_, ⟨rfl, stays⟩, fun k ne l c => ?_, fun k ne l => ?_, fun l => ?_, fun h k e => hs.owner e, ?_⟩
  · rw [State.enqueue_rec, if_neg ne]
  · rw [State.enqueue_line]
    split
    · exact mem_queues_set _ _ c _ k (by simp [ne])
    · exact Iff.rfl
  · rw [State.enqueue_line]
    split <;> exact Iff.rfl
  · rw [State.enqueue_line]
    split
    · refine ⟨(hs.2.2.1 l).1, fun c => ?_⟩
      dsimp only
      rw [get_set]
      split
      · refine List.nodup_append.mpr ⟨(hs.2.2.1 l).2 _, List.nodup_singleton r, fun a ha b hb ab => ?_⟩
        rw [List.mem_singleton.mp hb] at ab
        exact unqueued l _ (ab ▸ ha)
      · exact (hs.2.2.1 l).2 c
    · exact hs.2.2.1 l
  · unfold State.Placed
    rw [State.enqueue_rec, if_pos rfl]
    refine ⟨?_, by simp, by simp, fun l c => ?_, fun l => ?_, fun _ => hp⟩
    · simp only [reduceCtorEq, iff_false]
      exact stays
    · rw [State.enqueue_line]
      split
      · next e =>
        subst e
        dsimp only
        rw [get_set]
        split
        · next e' => simp [e']
        · next ne => simp [unqueued, Ne.symm ne]
      · next ne => simp [unqueued, Ne.symm ne]
    · rw [State.enqueue_line]
      split <;> simpa [DoseState.admitted] using out l

end Sys2Proof.Machine
end

section
/-! What a halt, an entry to PRESSING and a submission leave of pool, lines and reply list (R8, R11, R23, R71). -/

namespace Sys2Proof.Machine

/-! ### The replies that wait -/

/-- While a request is judged, the reply list and the transmitter stand still. -/
def State.HoldsReplies (s t : State) : Prop :=
  s.link.held = true → t.link.held = true ∧ t.link.replies = s.link.replies ∧ t.link.tx = s.link.tx

theorem State.HoldsReplies.of_link {s t : State} (e : t.link = s.link) : s.HoldsReplies t := fun h => by
  rw [e]
  exact ⟨h, rfl, rfl⟩

theorem State.HoldsReplies.trans {a b c : State} (h : a.HoldsReplies b) (k : b.HoldsReplies c) : a.HoldsReplies c := fun x => by
  obtain ⟨held, replies, tx⟩ := h x
  obtain ⟨held', replies', tx'⟩ := k held
  exact ⟨held', replies'.trans replies, tx'.trans tx⟩

/-- A notice posted meanwhile waits in its queue. -/
theorem State.post_holdsReplies (s : State) (n : Notice) : s.HoldsReplies (s.post n) := fun h => by
  rw [State.post_link]
  unfold Link.post
  split
  · rw [Link.kick_of_held { s.link with notices := s.link.notices ++ [n] } h]
    exact ⟨h, rfl, rfl⟩
  · rw [Link.kick_of_held { s.link with loss := true } h]
    exact ⟨h, rfl, rfl⟩

/-! ### Operations that spare the pool -/

/-- Records, lines and the heads' doses are as before, beside what a head's own transitions leave. -/
structure State.SparesPool (s t : State) : Prop extends s.KeepsPool t where
  recs : t.recs = s.recs
  lines : t.lines = s.lines
  dose : ∀ h : HeadIx, t.heads[h.val].dose = s.heads[h.val].dose
  replies : s.HoldsReplies t

theorem State.SparesPool.refl (s : State) : s.SparesPool s := ⟨.refl s, rfl, rfl, fun _ => rfl, .of_link rfl⟩

theorem State.SparesPool.trans {a b c : State} (h : a.SparesPool b) (k : b.SparesPool c) : a.SparesPool c :=
  ⟨h.toKeepsPool.trans k.toKeepsPool, k.recs.trans h.recs, k.lines.trans h.lines, fun x => (k.dose x).trans (h.dose x),
    h.replies.trans k.replies⟩

/-- An operation that moves no head and leaves the flow alone. -/
theorem State.SparesPool.of_flow {s t : State} (k : s.KeepsPool t) (f : s.SparesFlow t) (e : t.heads = s.heads) : s.SparesPool t :=
  ⟨k, f.recs, f.lines, fun _ => by rw [e], .of_link f.link⟩

/-- A change of one head that keeps its settings and its dose. -/
theorem State.modHead_sparesPool (s : State) (h : HeadIx) (f : Head → Head) (k : s.heads[h.val].Keeps (f s.heads[h.val]))
    (hd : (f s.heads[h.val]).dose = s.heads[h.val].dose) : s.SparesPool (s.modHead h f) :=
  ⟨s.modHead_keepsPool h f k, rfl, rfl, fun x => by
    rw [State.modHead_heads, get_set]
    split
    · next e => subst e; exact hd
    · rfl, .of_link rfl⟩

theorem State.SparesPool.pool {s t : State} (k : s.SparesPool t) (h : s.PoolWellKept) : t.PoolWellKept :=
  h.congr k.recs k.free (fun l => by rw [k.lines]; exact ⟨rfl, rfl⟩) fun x r e => h.owner ((k.dose x).symm.trans e)

/-- A conditioner without a holder, its arm up or on its way up. -/
def Conditioner.Rests (c : Conditioner) : Prop := c.unheld = true ∧ c.down = false

theorem Conditioner.emptied_rests (c : Conditioner) (now : Nat) (why : EndReason) : (c.emptied now why).Rests := by
  unfold Conditioner.emptied
  cases e : c.arm <;> exact ⟨rfl, by simp [Conditioner.down, Conditioner.raise]⟩

theorem Conditioner.Rests.dropHead {c : Conditioner} (h : c.Rests) (k : HeadIx) (now : Nat) : (c.dropHead k now).Rests := by
  obtain ⟨unheld, up⟩ := h
  have empty : c.head = none := by
    simp only [Conditioner.unheld, Bool.and_eq_true, Option.isNone_iff_eq_none] at unheld
    exact unheld.2
  unfold Conditioner.dropHead
  rw [empty, if_neg (by simp)]
  exact ⟨unheld, up⟩

/-- The pool is spared, and a conditioner that rests goes on resting. -/
structure State.SparesRest (s t : State) : Prop extends s.SparesPool t where
  rests : ∀ p : PlatenIx, s.conds[p.val].Rests → t.conds[p.val].Rests

theorem State.SparesRest.refl (s : State) : s.SparesRest s := ⟨.refl s, fun _ => id⟩

theorem State.SparesRest.trans {a b c : State} (h : a.SparesRest b) (k : b.SparesRest c) : a.SparesRest c :=
  ⟨h.toSparesPool.trans k.toSparesPool, fun p x => k.rests p (h.rests p x)⟩

theorem State.SparesPool.rest {s t : State} (k : s.SparesPool t) (e : t.conds = s.conds) : s.SparesRest t :=
  ⟨k, fun _ h => by rw [e]; exact h⟩

theorem State.modHead_sparesRest (s : State) (h : HeadIx) (f : Head → Head) (k : s.heads[h.val].Keeps (f s.heads[h.val]))
    (hd : (f s.heads[h.val]).dose = s.heads[h.val].dose) : s.SparesRest (s.modHead h f) := (s.modHead_sparesPool h f k hd).rest rfl

/-- A change of one conditioner after which it rests if it did. -/
theorem State.modCond_rests (s : State) (p k : PlatenIx) (f : Conditioner → Conditioner)
    (hf : s.conds[p.val].Rests → (f s.conds[p.val]).Rests) (h : s.conds[k.val].Rests) : (s.modCond p f).conds[k.val].Rests := by
  rw [State.modCond_conds, get_set]
  split
  · next e => subst e; exact hf h
  · exact h

theorem State.post_sparesRest (s : State) (n : Notice) : s.SparesRest (s.post n) :=
  ⟨⟨s.post_keepsPool n, rfl, rfl, fun _ => rfl, s.post_holdsReplies n⟩, fun _ => id⟩

theorem State.unbind_conds (s : State) (h : HeadIx) : (s.unbind h).conds = s.conds := by
  unfold State.unbind
  exact forEach_rel (R := fun s t => t.conds = s.conds) (fun _ => rfl) (fun h k => k.trans h) _ _ (fun _ _ => State.modWatch_conds _ _ _) s

theorem State.unbind_sparesRest (s : State) (h : HeadIx) : s.SparesRest (s.unbind h) :=
  (State.SparesPool.of_flow (s.unbind_keepsPool h) (s.unbind_sparesFlow h) (s.unbind_heads h)).rest (s.unbind_conds h)

theorem State.dropHolder_sparesRest (s : State) (h : HeadIx) : s.SparesRest (s.dropHolder h) :=
  ⟨.of_flow (s.dropHolder_keepsPool h) (s.dropHolder_sparesFlow h) (s.dropHolder_heads h), fun k =>
    forEach_rel (R := fun s t => s.conds[k.val].Rests → t.conds[k.val].Rests) (fun _ => id) (fun h k x => k (h x)) _ _
      (fun p s => s.modCond_rests p k _ fun x => x.dropHead h s.now) s⟩

theorem State.testReady_sparesRest (s : State) : s.SparesRest s.testReady := by
  refine ⟨.of_flow s.testReady_keepsPool s.testReady_sparesFlow s.testReady_heads, fun k => ?_⟩
  unfold State.testReady
  split
  · exact forEach_rel (R := fun s t => s.conds[k.val].Rests → t.conds[k.val].Rests) (fun _ => id) (fun h k x => k (h x)) _ _
      (fun p s => s.modCond_rests p k _ fun _ => Conditioner.emptied_rests _ _ _)
      (s.modCar fun c => { c with state := .lifting, liftStart := s.now, lifted := false })
  · exact id

theorem State.endStep_sparesRest (s : State) (h : HeadIx) (why : StepReason) : s.SparesRest (s.endStep h why) := by
  unfold State.endStep
  dsimp only
  split
  · exact .refl s
  · exact ((s.post_sparesRest _).trans (State.unbind_sparesRest _ h)).trans
      (State.modHead_sparesRest _ h _ ⟨rfl, rfl, fun _ => rfl, fun _ => rfl, fun _ => rfl⟩ rfl)

theorem State.endHeld_sparesRest (s : State) (h : HeadIx) (why : StepReason) : s.SparesRest (s.endHeld h why) := by
  unfold State.endHeld
  dsimp only
  split
  · exact .refl s
  · exact (s.post_sparesRest _).trans (State.modHead_sparesRest _ h _ ⟨rfl, rfl, fun _ => rfl, fun _ => rfl, fun _ => rfl⟩ rfl)

theorem State.setModes_sparesRest (s : State) (h : HeadIx) (m : ZoneIx → ZoneMode) : s.SparesRest (s.setModes h m) :=
  s.modHead_sparesRest h (fun d => d.mapZones fun z c => c.setMode (m z) s.now (s.processed h z))
    (Head.mapZones_keeps _ _ fun _ _ => ⟨rfl, rfl, rfl⟩) rfl

/-- A halt is the giving up of the head's dose between two parts that spare the pool (R23). -/
theorem State.haltHead_split (s : State) (h : HeadIx) (why : HaltReason) (zone : Option ZoneIx) (watch : Option WatchIx)
    (ne : s.heads[h.val].state ≠ .halted) : ∃ v, s.SparesRest v ∧ (v.releaseDose h).SparesRest (s.haltHead h why zone watch) := by
  unfold State.haltHead
  rw [if_neg ne]
  dsimp only
  have quiet : s.SparesRest ((s.toStandby h).modHead h fun d => { d.zeroCommands.stopSupervision with updateDue := none }) :=
    State.SparesRest.trans (s.setModes_sparesRest h (s.heads[h.val].standby).mode)
      ((s.toStandby h).modHead_sparesRest h (fun d => { d.zeroCommands.stopSupervision with updateDue := none }) (Head.quiet_keeps _) rfl)
  refine ⟨_, (State.SparesRest.trans quiet ?_).trans
    (State.modHead_sparesRest _ h (fun d => { d with state := .halted, haltReason := some why, snapshot := [] })
      ⟨rfl, rfl, fun _ => rfl, fun _ => rfl, fun _ => rfl⟩ rfl),
    (((State.unbind_sparesRest _ h).trans (State.dropHolder_sparesRest _ h)).trans (State.post_sparesRest _ _)).trans
      (State.testReady_sparesRest _)⟩
  split
  · exact State.endHeld_sparesRest _ h _
  · exact State.endStep_sparesRest _ h _

/-! ### A dose given up -/

/-- A head that forgets its dose. -/
def State.forgetDose (s : State) (h : HeadIx) : State := s.modHead h fun d => { d with dose := none }

/-- A head that uses no dose gives up none; a QUEUED record is withdrawn and its line makes an attempt; another is closed (R71). -/
theorem State.releaseDose_cases (s : State) (h : HeadIx) :
    (s.heads[h.val].dose = none ∧ s.releaseDose h = s)
    ∨ ∃ r, s.heads[h.val].dose = some r ∧
      ((s.recs[r.val].state = .queued ∧ s.releaseDose h = ((s.forgetDose h).withdraw r).attempt s.recs[r.val].line)
        ∨ (s.recs[r.val].state ≠ .queued ∧ s.releaseDose h = (s.forgetDose h).close r .released)) := by
  unfold State.releaseDose
  cases e : s.heads[h.val].dose with
  | none => exact .inl ⟨rfl, rfl⟩
  | some r =>
    refine .inr ⟨r, rfl, ?_⟩
    dsimp only
    split
    · next q => exact .inl ⟨q, rfl⟩
    · next q => exact .inr ⟨q, rfl⟩

theorem ownerOf_lt {r : RecIx} {h : HeadIx} (e : ownerOf r = some h) : r.val < 8 := by
  unfold ownerOf at e
  split at e
  · assumption
  · cases e

/-- What telling the heads and the lines does to the rest of the part: nothing to what no work of the blocks changes, nothing to the
replies, no line out of service, and every record in its place. -/
structure State.Tells (s t : State) : Prop extends s.Keeps t where
  replies : s.HoldsReplies t
  serves : s.ServesOn t
  pool : s.PoolWellKept → t.PoolWellKept

theorem State.Tells.refl (s : State) : s.Tells s := ⟨.refl s, .of_link rfl, .refl s, id⟩

theorem State.Tells.trans {a b c : State} (h : a.Tells b) (k : b.Tells c) : a.Tells c :=
  ⟨h.toKeeps.trans k.toKeeps, h.replies.trans k.replies, h.serves.trans k.serves, fun x => k.pool (h.pool x)⟩

theorem State.SparesPool.tells {s t : State} (k : s.SparesPool t) : s.Tells t := ⟨k.toKeeps, k.replies, .of_lines k.lines, k.pool⟩

theorem State.attempt_tells (s : State) (l : LineIx) : s.Tells (s.attempt l) :=
  ⟨(s.attempt_keeps l).toKeeps, .of_link (s.attempt_keeps l).link, s.attempt_servesOn l, (s.attempt_opensInPlace l).pool⟩

theorem State.round_tells (s : State) (p : PlatenIx) (asked : State → LineIx → Bool) : s.Tells (s.round p asked) :=
  State.round_rel .refl .trans State.attempt_tells s p asked

theorem State.close_tells (s : State) (r : RecIx) (why : DoseReason) : s.Tells (s.close r why) := by
  refine ⟨(s.close_keeps r why).toKeeps, .of_link (s.close_keeps r why).link, ?_, s.close_pool r why⟩
  by_cases live : s.recs[r.val].state.live = true
  · rw [State.close_of_live live]
    exact State.ServesOn.trans (b := s.closingNow r why) (.of_lines rfl) (State.settleCheck_servesOn _ _)
  · rw [State.close_of_not_live live]
    exact .refl s

theorem State.withdraw_servesOn (s : State) (r : RecIx) : s.ServesOn (s.withdraw r) := fun l => .inl (by
  rw [State.withdraw_line]
  split <;> rfl)

theorem State.forgetDose_tells (s : State) (h : HeadIx) : s.Tells (s.forgetDose h) :=
  ⟨(s.modHead_keepsPool' h _ rfl rfl rfl).toKeeps, .of_link rfl, .of_lines rfl, s.modHead_pool h _ (fun _ e => by cases e)⟩

theorem State.releaseDose_tells (s : State) (h : HeadIx) : s.Tells (s.releaseDose h) := by
  obtain ⟨-, e⟩ | ⟨r, hd, ⟨q, e⟩ | ⟨-, e⟩⟩ := s.releaseDose_cases h
  · rw [e]
    exact .refl s
  · rw [e]
    have withdrawn : s.Tells ((s.forgetDose h).withdraw r) :=
      have f := s.forgetDose_tells h
      have k := (s.forgetDose h).withdraw_keeps r
      ⟨f.toKeeps.trans k.toKeeps, f.replies.trans (.of_link k.link), f.serves.trans (State.withdraw_servesOn _ r),
        fun pool => (f.pool pool).relocates ((s.forgetDose h).withdraw_relocates r (f.pool pool) (ownerOf_lt (pool.owner hd)) q)⟩
    exact withdrawn.trans (State.attempt_tells _ _)
  · rw [e]
    exact (s.forgetDose_tells h).trans (State.close_tells _ _ _)

/-- Among records in their places, the dose of another head at most opens. -/
theorem State.releaseDose_rec (s : State) (h : HeadIx) (k : RecIx) (hs : s.PoolWellKept) (hk : s.heads[h.val].dose ≠ some k) :
    (s.releaseDose h).recs[k.val] = s.recs[k.val]
      ∨ (s.recs[k.val].state = .queued ∧ (s.releaseDose h).recs[k.val] = { s.recs[k.val] with state := .opening, since := s.now }) := by
  have forgotten := s.forgetDose_tells h
  obtain ⟨-, e⟩ | ⟨r, hd, ⟨q, e⟩ | ⟨-, e⟩⟩ := s.releaseDose_cases h
  · rw [e]
    exact .inl rfl
  · have ne : k ≠ r := fun c => hk (c ▸ hd)
    have pool := forgotten.pool hs
    have withdrawn := pool.relocates ((s.forgetDose h).withdraw_relocates r pool (ownerOf_lt (hs.owner hd)) q)
    have opens := (State.attempt_opensInPlace _ s.recs[r.val].line).opens withdrawn k
    rw [State.withdraw_rec, if_neg ne] at opens
    rw [e]
    exact opens
  · have ne : k ≠ r := fun c => hk (c ▸ hd)
    rw [e, State.close_recs]
    split
    · rw [get_set, if_neg ne]
      exact .inl rfl
    · exact .inl rfl

/-- Every record keeps the platen and the service flag it was submitted with. -/
structure State.KeepsOrders (s t : State) : Prop where
  platen : ∀ r : RecIx, t.recs[r.val].platen = s.recs[r.val].platen
  service : ∀ r : RecIx, t.recs[r.val].service = s.recs[r.val].service

theorem State.KeepsOrders.refl (s : State) : s.KeepsOrders s := ⟨fun _ => rfl, fun _ => rfl⟩

theorem State.KeepsOrders.trans {a b c : State} (h : a.KeepsOrders b) (k : b.KeepsOrders c) : a.KeepsOrders c :=
  ⟨fun r => (k.platen r).trans (h.platen r), fun r => (k.service r).trans (h.service r)⟩

theorem State.KeepsOrders.of_recs {s t : State} (e : t.recs = s.recs) : s.KeepsOrders t := ⟨fun _ => by rw [e], fun _ => by rw [e]⟩

/-- With the modes kept too, the same records are eligible. -/
theorem State.KeepsOrders.eligible {s t : State} (h : s.KeepsOrders t) (k : s.Keeps t) (r : RecIx) : t.eligible r = s.eligible r :=
  State.eligible_congr (h.platen r) (h.service r) k.modes

theorem State.Admits.orders {s t : State} (h : s.Admits t) : s.KeepsOrders t :=
  ⟨fun r => by rcases h.recs r with e | ⟨-, e⟩ <;> rw [e], fun r => by rcases h.recs r with e | ⟨-, e⟩ <;> rw [e]⟩

theorem State.close_orders (s : State) (r : RecIx) (why : DoseReason) : s.KeepsOrders (s.close r why) := by
  constructor <;> intro k <;> rw [State.close_recs] <;> split
  · rw [get_set]
    split
    · next e => rw [e]
    · rfl
  · rfl
  · rw [get_set]
    split
    · next e => rw [e]
    · rfl
  · rfl

theorem State.withdraw_orders (s : State) (r : RecIx) : s.KeepsOrders (s.withdraw r) := by
  constructor <;> intro k <;> rw [State.withdraw_rec] <;> split
  · next e => rw [e]
  · rfl
  · next e => rw [e]
  · rfl

theorem State.releaseDose_orders (s : State) (h : HeadIx) : s.KeepsOrders (s.releaseDose h) := by
  have forgotten : s.KeepsOrders (s.forgetDose h) := .of_recs rfl
  obtain ⟨-, e⟩ | ⟨r, -, ⟨-, e⟩ | ⟨-, e⟩⟩ := s.releaseDose_cases h
  · rw [e]
    exact .refl s
  · rw [e]
    exact forgotten.trans (((s.forgetDose h).withdraw_orders r).trans (State.attempt_admits _ _).orders)
  · rw [e]
    exact forgotten.trans ((s.forgetDose h).close_orders r .released)

/-- A dose that is OPENING or FLOWING after a head gave up its own was so before and is another's, or was eligible. -/
theorem State.releaseDose_live (s : State) (h : HeadIx) (k : RecIx) (hl : (s.releaseDose h).recs[k.val].state.live = true) :
    (s.recs[k.val].state.live = true ∧ s.heads[h.val].dose ≠ some k) ∨ s.eligible k = true := by
  obtain ⟨hd, e⟩ | ⟨r, hd, ⟨-, e⟩ | ⟨-, e⟩⟩ := s.releaseDose_cases h
  · rw [e] at hl
    exact .inl ⟨hl, by simp [hd]⟩
  · rw [e] at hl
    have orders := (s.forgetDose h).withdraw_orders r
    have eligible := orders.eligible ((s.forgetDose h).withdraw_keeps r).toKeeps k
    rcases (State.attempt_admits ((s.forgetDose h).withdraw r) s.recs[r.val].line).recs k with e' | ⟨x, -⟩
    · rw [e', State.withdraw_rec] at hl
      split at hl
      · cases hl
      · next ne => exact .inl ⟨hl, fun c => ne (Option.some.inj (hd.symm.trans c)).symm⟩
    · exact .inr (eligible.symm.trans x)
  · rw [e, State.close_recs] at hl
    have ne : k ≠ r := by
      rintro rfl
      split at hl
      · simp [DoseState.live] at hl
      · next dead => exact dead hl
    refine .inl ⟨?_, fun c => ne (Option.some.inj (hd.symm.trans c)).symm⟩
    split at hl
    · rw [get_set, if_neg ne] at hl
      exact hl
    · exact hl

/-! ### A halt -/

section halt

variable (s : State) (h : HeadIx) (why : HaltReason) (zone : Option ZoneIx) (watch : Option WatchIx)

theorem State.haltHead_of_halted (e : s.heads[h.val].state = .halted) : s.haltHead h why zone watch = s := if_pos e

theorem State.haltHead_tells : s.Tells (s.haltHead h why zone watch) := by
  by_cases ne : s.heads[h.val].state = .halted
  · rw [s.haltHead_of_halted h why zone watch ne]
    exact .refl s
  · obtain ⟨v, first, last⟩ := s.haltHead_split h why zone watch ne
    exact (first.tells.trans (v.releaseDose_tells h)).trans last.tells

theorem State.haltHead_orders : s.KeepsOrders (s.haltHead h why zone watch) := by
  by_cases ne : s.heads[h.val].state = .halted
  · rw [s.haltHead_of_halted h why zone watch ne]
    exact .refl s
  · obtain ⟨v, first, last⟩ := s.haltHead_split h why zone watch ne
    exact ((State.KeepsOrders.of_recs first.recs).trans (v.releaseDose_orders h)).trans (.of_recs last.recs)

/-- A halt moves the dose its head gives up; another record at most opens. -/
theorem State.haltHead_rec (k : RecIx) (hs : s.PoolWellKept) (hk : s.heads[h.val].dose ≠ some k) :
    (s.haltHead h why zone watch).recs[k.val] = s.recs[k.val] ∨ (s.recs[k.val].state = .queued
      ∧ (s.haltHead h why zone watch).recs[k.val] = { s.recs[k.val] with state := .opening, since := s.now }) := by
  by_cases ne : s.heads[h.val].state = .halted
  · rw [s.haltHead_of_halted h why zone watch ne]
    exact .inl rfl
  · obtain ⟨v, first, last⟩ := s.haltHead_split h why zone watch ne
    have moved := v.releaseDose_rec h k (first.pool hs) (by rw [first.dose h]; exact hk)
    rw [first.recs, first.now] at moved
    rw [last.recs]
    exact moved

theorem State.haltHead_live (ne : s.heads[h.val].state ≠ .halted) (k : RecIx)
    (hl : (s.haltHead h why zone watch).recs[k.val].state.live = true) :
    (s.recs[k.val].state.live = true ∧ s.heads[h.val].dose ≠ some k) ∨ s.eligible k = true := by
  obtain ⟨v, first, last⟩ := s.haltHead_split h why zone watch ne
  rw [last.recs] at hl
  have moved := v.releaseDose_live h k hl
  rw [first.recs, first.dose h, (State.KeepsOrders.of_recs first.recs).eligible first.toKeeps k] at moved
  exact moved

theorem State.haltHead_rests (p : PlatenIx) (hp : s.conds[p.val].Rests) : (s.haltHead h why zone watch).conds[p.val].Rests := by
  by_cases ne : s.heads[h.val].state = .halted
  · rw [s.haltHead_of_halted h why zone watch ne]
    exact hp
  · obtain ⟨v, first, last⟩ := s.haltHead_split h why zone watch ne
    refine last.rests p ?_
    have given : (v.releaseDose h).conds = v.conds := by
      obtain ⟨-, e⟩ | ⟨r, -, ⟨-, e⟩ | ⟨-, e⟩⟩ := v.releaseDose_cases h
      · rw [e]
      · rw [e]
        exact (State.attempt_keeps _ _).conds.trans ((v.forgetDose h).withdraw_keeps r).conds
      · rw [e]
        exact ((v.forgetDose h).close_keeps r _).conds
    rw [given]
    exact first.rests p hp

end halt

/-! ### An ending that is told -/

section ending

variable (s : State) (r : RecIx) (why : DoseReason)

theorem State.tellLoss_cases : s.tellLoss r = s ∨ ∃ h, s.tellLoss r = s.haltHead h .slurryLost none none := by
  unfold State.tellLoss
  split
  · exact .inl rfl
  · split
    · exact .inr ⟨_, rfl⟩
    · exact .inl rfl

/-- A told ending is the ending, and at most one halt. -/
theorem State.closeAndTell_cases : s.closeAndTell r why = s ∨ s.closeAndTell r why = s.close r why
    ∨ ∃ h, s.closeAndTell r why = (s.close r why).haltHead h .slurryLost none none := by
  unfold State.closeAndTell
  split
  · exact .inr ((s.close r why).tellLoss_cases r)
  · exact .inl rfl

theorem State.closeAndTell_tells : s.Tells (s.closeAndTell r why) := by
  obtain e | e | ⟨h, e⟩ := s.closeAndTell_cases r why <;> rw [e]
  · exact .refl s
  · exact s.close_tells r why
  · exact (s.close_tells r why).trans (State.haltHead_tells _ h _ _ _)

theorem State.closeAndTell_rests (p : PlatenIx) (hp : s.conds[p.val].Rests) : (s.closeAndTell r why).conds[p.val].Rests := by
  have closed : (s.close r why).conds[p.val].Rests := by
    rw [(s.close_keeps r why).conds]
    exact hp
  obtain e | e | ⟨h, e⟩ := s.closeAndTell_cases r why <;> rw [e]
  · exact hp
  · exact closed
  · exact State.haltHead_rests _ h _ _ _ p closed

/-- The admitted sets stay: a dose leaves them at the end of CLOSING alone (R97). -/
theorem State.closeAndTell_admitted (l : LineIx) : (s.closeAndTell r why).lines[l.val].admitted = s.lines[l.val].admitted := by
  by_cases live : s.recs[r.val].state.live = true
  · have told := (State.tellLoss_posts (s.close r why) r (by rw [s.close_get r why live])).lines
    obtain ⟨x, hx⟩ := (s.closingNow r why).settleCheck_line_eq s.recs[r.val].line l
    simp only [State.closeAndTell, if_pos live, told]
    simp only [State.close_of_live live, hx]
    rfl
  · simp only [State.closeAndTell, if_neg live]

end ending

end Sys2Proof.Machine
end

section
/-! A demotion: the conditioner emptied, the heads halted in rising order, then the doses closed line by line (R51 to R53). -/

namespace Sys2Proof.Machine

/-! ### The permissions of a mode (R49) -/

theorem permitted_eq (m : Mode) (service : Bool) : permitted m service = (2 ≤ m.code || (m.code == 1 && service)) := by
  cases m <;> cases service <;> rfl

theorem permitted_iff (m : Mode) (service : Bool) :
    permitted m service = true ↔ 2 ≤ m.code ∨ (m.code = 1 ∧ service = true) := by
  rw [permitted_eq]
  simp

theorem State.eligible_of_platen {s : State} {r : RecIx} {p : PlatenIx} (e : s.recs[r.val].platen = some p) :
    s.eligible r = permitted s.platens[p.val].mode s.recs[r.val].service := by
  unfold State.eligible
  rw [e]

theorem mem_allHeads (h : HeadIx) : h ∈ allHeads := by
  revert h
  decide

theorem mem_allLines (l : LineIx) : l ∈ allLines := by
  revert l
  decide

/-! ### The heads a demotion halts (R52) -/

/-- Halts the heads of a list in turn, as a demotion does. -/
def State.haltEach (s : State) (hs : List HeadIx) : State := forEach hs (fun h s => s.haltHead h .platenMode none none) s

/-- A property of the step that every halt of the list makes holds of the whole. -/
theorem State.haltEach_rel {R : State → State → Prop} (refl : ∀ s, R s s) (trans : ∀ {a b c}, R a b → R b c → R a c)
    (halt : ∀ (s : State) (h : HeadIx), R s (s.haltHead h .platenMode none none)) (s : State) (hs : List HeadIx) : R s (s.haltEach hs) :=
  forEach_rel refl trans hs _ (fun h s => halt s h) s

theorem State.haltEach_tells (s : State) (hs : List HeadIx) : s.Tells (s.haltEach hs) :=
  State.haltEach_rel .refl .trans (fun s h => s.haltHead_tells h _ _ _) s hs

theorem State.haltEach_orders (s : State) (hs : List HeadIx) : s.KeepsOrders (s.haltEach hs) :=
  State.haltEach_rel .refl .trans (fun s h => s.haltHead_orders h _ _ _) s hs

theorem State.haltEach_rests (s : State) (hs : List HeadIx) (p : PlatenIx) (h : s.conds[p.val].Rests) :
    (s.haltEach hs).conds[p.val].Rests :=
  State.haltEach_rel (R := fun s t => s.conds[p.val].Rests → t.conds[p.val].Rests) (fun _ => id) (fun h k x => k (h x))
    (fun s k => s.haltHead_rests k _ _ _ p) s hs h

/-- A head that is not of the list is as before. -/
theorem State.haltEach_head (hs : List HeadIx) (s : State) (h : HeadIx) (hn : h ∉ hs) :
    (s.haltEach hs).heads[h.val] = s.heads[h.val] := by
  induction hs generalizing s with
  | nil => rfl
  | cons k hs ih =>
    have other := s.haltHead_only k .platenMode none none h fun c => hn (c ▸ List.mem_cons_self ..)
    exact (ih _ fun c => hn (List.mem_cons_of_mem _ c)).trans other

/-- Every head of the list, none of them HALTED before, is HALTED with PLATEN-MODE. -/
theorem State.haltEach_halts (hs : List HeadIx) (hn : hs.Nodup) (s : State) (hh : ∀ h ∈ hs, s.heads[h.val].state ≠ .halted)
    (h : HeadIx) (hm : h ∈ hs) :
    (s.haltEach hs).heads[h.val].state = .halted ∧ (s.haltEach hs).heads[h.val].haltReason = some .platenMode := by
  induction hs generalizing s with
  | nil => cases hm
  | cons k hs ih =>
    obtain ⟨out, hn⟩ := List.nodup_cons.mp hn
    have only := s.haltHead_only k .platenMode none none
    rcases List.mem_cons.mp hm with rfl | hm
    · have stays := State.haltEach_head hs (s.haltHead h .platenMode none none) h out
      have ended := s.haltHead_reason h .platenMode none none (hh h (List.mem_cons_self ..))
      exact ⟨(congrArg Head.state stays).trans (s.haltHead_state h _ _ _), (congrArg Head.haltReason stays).trans ended.1⟩
    · refine ih hn _ (fun j hj => ?_) hm
      rw [only j fun c => out (c ▸ hj)]
      exact hh j (List.mem_cons_of_mem _ hj)

/-- A dose OPENING or FLOWING after the halts was so before and is none of the halted heads', or was eligible. -/
theorem State.haltEach_live (hs : List HeadIx) (hn : hs.Nodup) (s : State) (hh : ∀ h ∈ hs, s.heads[h.val].state ≠ .halted)
    (r : RecIx) (hl : (s.haltEach hs).recs[r.val].state.live = true) :
    (s.recs[r.val].state.live = true ∧ ∀ h ∈ hs, s.heads[h.val].dose ≠ some r) ∨ s.eligible r = true := by
  induction hs generalizing s with
  | nil => exact .inl ⟨hl, by simp⟩
  | cons k hs ih =>
    obtain ⟨out, hn⟩ := List.nodup_cons.mp hn
    have only := fun j (hj : j ∈ hs) => s.haltHead_only k .platenMode none none j fun c => out (c ▸ hj)
    have rest := ih hn (s.haltHead k .platenMode none none)
      (fun j hj => by rw [only j hj]; exact hh j (List.mem_cons_of_mem _ hj)) hl
    rcases rest with ⟨live, others⟩ | el
    · refine (s.haltHead_live k _ _ _ (hh k (List.mem_cons_self ..)) r live).imp_left fun own => ⟨own.1, fun j hj => ?_⟩
      rcases List.mem_cons.mp hj with rfl | hj
      · exact own.2
      · rw [← only j hj]
        exact others j hj
    · exact .inr (((s.haltHead_orders k _ _ _).eligible (s.haltHead_tells k _ _ _).toKeeps r).symm.trans el)

/-- Among records in their places, an OPENING or FLOWING dose of no halted head is as before. -/
theorem State.haltEach_rec (hs : List HeadIx) (hn : hs.Nodup) (s : State) (pool : s.PoolWellKept) (r : RecIx)
    (hl : s.recs[r.val].state.live = true) (hd : ∀ h ∈ hs, s.heads[h.val].dose ≠ some r) :
    (s.haltEach hs).recs[r.val] = s.recs[r.val] := by
  induction hs generalizing s with
  | nil => rfl
  | cons k hs ih =>
    obtain ⟨out, hn⟩ := List.nodup_cons.mp hn
    have stays : (s.haltHead k .platenMode none none).recs[r.val] = s.recs[r.val] := by
      rcases s.haltHead_rec k .platenMode none none r pool (hd k (List.mem_cons_self ..)) with e | ⟨q, -⟩
      · exact e
      · rw [q] at hl
        cases hl
    refine (ih hn _ ((s.haltHead_tells k _ _ _).pool pool) (by rw [stays]; exact hl) fun j hj => ?_).trans stays
    rw [s.haltHead_only k _ _ _ j fun c => out (c ▸ hj)]
    exact hd j (List.mem_cons_of_mem _ hj)

/-- The heads that work for platen `p`, in rising order. -/
def State.demoted (s : State) (p : PlatenIx) (hs : List HeadIx) : List HeadIx := hs.filter fun h => s.heads[h.val].demotedWith p

/-- A head that a demotion halts is not HALTED. -/
theorem Head.not_halted_of_demotedWith {d : Head} {p : PlatenIx} (h : d.demotedWith p = true) : d.state ≠ .halted := fun e => by
  simp [Head.demotedWith, e, HeadState.demotionHalts] at h

/-- Telling the heads is halting those that work for the platen, and counting them. -/
theorem foldl_tellHeadDemotion (p : PlatenIx) (hs : List HeadIx) (hn : hs.Nodup) (s : State) (n : Nat) :
    hs.foldl (tellHeadDemotion p) (s, n) = (s.haltEach (s.demoted p hs), n + (s.demoted p hs).length) := by
  induction hs generalizing s n with
  | nil => rfl
  | cons k hs ih =>
    obtain ⟨out, hn⟩ := List.nodup_cons.mp hn
    rw [List.foldl_cons]
    by_cases told : s.heads[k.val].demotedWith p = true
    · have first : tellHeadDemotion p (s, n) k = (s.haltHead k .platenMode none none, n + 1) := if_pos told
      have demoted : s.demoted p (k :: hs) = k :: s.demoted p hs := List.filter_cons_of_pos told
      have same : (s.haltHead k .platenMode none none).demoted p hs = s.demoted p hs :=
        List.filter_congr fun j hj => by rw [s.haltHead_only k _ _ _ j fun c => out (c ▸ hj)]
      rw [first, ih hn, same, demoted, List.length_cons, Nat.add_right_comm n 1, Nat.add_assoc n _ 1]
      rfl
    · have first : tellHeadDemotion p (s, n) k = (s, n) := if_neg told
      have demoted : s.demoted p (k :: hs) = s.demoted p hs := List.filter_cons_of_neg told
      rw [first, ih hn, demoted]

/-! ### The doses a demotion closes (R53) -/

/-- Closes the doses of a list in turn, as a demotion does. -/
def State.closeEach (s : State) (rs : List RecIx) : State := forEach rs (fun r s => s.closeAndTell r .platenMode) s

theorem State.closeEach_rel {R : State → State → Prop} (refl : ∀ s, R s s) (trans : ∀ {a b c}, R a b → R b c → R a c)
    (close : ∀ (s : State) (r : RecIx), R s (s.closeAndTell r .platenMode)) (s : State) (rs : List RecIx) : R s (s.closeEach rs) :=
  forEach_rel refl trans rs _ (fun r s => close s r) s

theorem State.closeEach_tells (s : State) (rs : List RecIx) : s.Tells (s.closeEach rs) :=
  State.closeEach_rel .refl .trans (fun s r => s.closeAndTell_tells r _) s rs

theorem State.closeEach_rests (s : State) (rs : List RecIx) (p : PlatenIx) (h : s.conds[p.val].Rests) :
    (s.closeEach rs).conds[p.val].Rests :=
  State.closeEach_rel (R := fun s t => s.conds[p.val].Rests → t.conds[p.val].Rests) (fun _ => id) (fun h k x => k (h x))
    (fun s r => s.closeAndTell_rests r _ p) s rs h

theorem State.closeEach_admitted (s : State) (rs : List RecIx) (l : LineIx) :
    (s.closeEach rs).lines[l.val].admitted = s.lines[l.val].admitted :=
  State.closeEach_rel (R := fun s t => t.lines[l.val].admitted = s.lines[l.val].admitted) (fun _ => rfl) (fun h k => k.trans h)
    (fun s r => s.closeAndTell_admitted r _ l) s rs

theorem State.closeEach_rec (s : State) (rs : List RecIx) (k : RecIx) :
    (s.closeEach rs).recs[k.val] = if k ∈ rs ∧ s.recs[k.val].state.live = true then
      { s.recs[k.val] with state := .closing, reason := some .platenMode, since := s.now } else s.recs[k.val] :=
  forEach_closeAndTell_rec .platenMode rs s k

/-- A head that uses none of the doses is as before. -/
theorem State.closeEach_head (rs : List RecIx) (s : State) (h : HeadIx) (hn : ∀ r ∈ rs, s.heads[h.val].dose ≠ some r) :
    (s.closeEach rs).heads[h.val] = s.heads[h.val] := by
  induction rs generalizing s with
  | nil => rfl
  | cons r rs ih =>
    have stays := s.closeAndTell_head r .platenMode h (.inl (hn r (List.mem_cons_self ..)))
    exact (ih _ fun x hx => by rw [stays]; exact hn x (List.mem_cons_of_mem _ hx)).trans stays

theorem State.mem_unpermitted {s : State} {l : LineIx} {p : PlatenIx} {r : RecIx} : r ∈ s.unpermitted l p ↔
    r ∈ s.lines[l.val].admitted ∧ s.recs[r.val].state.live = true ∧ s.recs[r.val].platen = some p
      ∧ permitted s.platens[p.val].mode s.recs[r.val].service = false := by
  simp [State.unpermitted, and_assoc]

/-- What is left to close once some doses are closed. -/
theorem State.closeEach_unpermitted (s : State) (rs : List RecIx) (l : LineIx) (p : PlatenIx) (r : RecIx) :
    r ∈ (s.closeEach rs).unpermitted l p ↔ r ∈ s.unpermitted l p ∧ r ∉ rs := by
  rw [State.mem_unpermitted, State.mem_unpermitted, s.closeEach_admitted rs l, (s.closeEach_tells rs).modes p, State.closeEach_rec]
  by_cases live : s.recs[r.val].state.live = true
  · by_cases mem : r ∈ rs
    · rw [if_pos ⟨mem, live⟩]
      simp [mem, DoseState.live]
    · rw [if_neg fun c => mem c.1]
      simp [mem]
  · rw [if_neg fun c => live c.2]
    simp [live]

/-- Telling the lines is closing, one after another, the doses that the mode does not permit, each once, and counting them. -/
theorem foldl_tellLineDemotion (p : PlatenIx) (ls : List LineIx) (s : State) (n : Nat) :
    ∃ rs, ls.foldl (tellLineDemotion p) (s, n) = (s.closeEach rs, n + rs.length)
      ∧ (∀ r, r ∈ rs ↔ ∃ l ∈ ls, r ∈ s.unpermitted l p)
      ∧ ((∀ l : LineIx, s.lines[l.val].admitted.Nodup) → rs.Nodup) := by
  induction ls generalizing s n with
  | nil => exact ⟨[], rfl, by simp, fun _ => List.nodup_nil⟩
  | cons l ls ih =>
    obtain ⟨rs, e, mem, once⟩ := ih (s.closeEach (s.unpermitted l p)) (n + (s.unpermitted l p).length)
    have mem' : ∀ r, r ∈ rs ↔ (∃ k ∈ ls, r ∈ s.unpermitted k p) ∧ r ∉ s.unpermitted l p := fun r => by
      rw [mem r]
      simp only [State.closeEach_unpermitted, ← and_assoc, exists_and_right]
    refine ⟨s.unpermitted l p ++ rs, ?_, fun r => ?_, fun h => ?_⟩
    · refine e.trans (Prod.ext ?_ ?_)
      · exact (forEach_append _ _ _ _).symm
      · simp only [List.length_append]
        omega
    · rw [List.mem_append, mem' r]
      simp only [List.mem_cons, exists_eq_or_imp]
      tauto
    · refine List.nodup_append.mpr ⟨(h l).filter _, once fun k => ?_, fun a ha b hb ab => ?_⟩
      · rw [State.closeEach_admitted]
        exact h k
      · exact ((mem' b).mp hb).2 (ab ▸ ha)

/-! ### The whole telling (R51) -/

/-- The conditioner of a platen whose mode does not permit conditioning is emptied. -/
def State.emptiesCond (s : State) (p : PlatenIx) : State :=
  if s.platens[p.val].mode.condition then s else s.modCond p fun c => c.emptied s.now .platenMode

theorem State.emptiesCond_sparesPool (s : State) (p : PlatenIx) : s.SparesPool (s.emptiesCond p) := by
  unfold State.emptiesCond
  split
  · exact .refl s
  · exact .of_flow (s.modCond_keepsPool p _ (Conditioner.emptied_profile _ _ _)) ⟨rfl, rfl, rfl⟩ rfl

theorem State.emptiesCond_heads (s : State) (p : PlatenIx) : (s.emptiesCond p).heads = s.heads := by
  unfold State.emptiesCond
  split <;> rfl

theorem State.emptiesCond_rests (s : State) (p : PlatenIx) (hm : s.platens[p.val].mode.code < 3) :
    (s.emptiesCond p).conds[p.val].Rests := by
  unfold State.emptiesCond
  rw [if_neg (by simpa [Mode.condition] using hm), State.modCond_conds, get_set, if_pos rfl]
  exact Conditioner.emptied_rests _ _ _

/-- A demotion empties the conditioner, halts the heads that work for the platen, and closes the doses not permitted that are then left,
each once. -/
theorem State.tellDemotion_eq (s : State) (p : PlatenIx) :
    ∃ rs, s.tellDemotion p = (((s.emptiesCond p).haltEach (s.demoted p allHeads)).closeEach rs, (s.demoted p allHeads).length, rs.length)
      ∧ (∀ r, r ∈ rs ↔ ∃ l ∈ allLines, r ∈ ((s.emptiesCond p).haltEach (s.demoted p allHeads)).unpermitted l p)
      ∧ (s.PoolWellKept → rs.Nodup) := by
  have same : (s.emptiesCond p).demoted p allHeads = s.demoted p allHeads := by
    unfold State.demoted
    rw [s.emptiesCond_heads p]
  obtain ⟨rs, e, mem, once⟩ := foldl_tellLineDemotion p allLines ((s.emptiesCond p).haltEach (s.demoted p allHeads)) 0
  have heads : allHeads.foldl (tellHeadDemotion p) (s.emptiesCond p, 0)
      = ((s.emptiesCond p).haltEach (s.demoted p allHeads), (s.demoted p allHeads).length) := by
    rw [foldl_tellHeadDemotion p allHeads (by decide), same, Nat.zero_add]
  refine ⟨rs, ?_, mem, fun pool => once fun l => ?_⟩
  · unfold State.tellDemotion
    rw [State.emptiesCond] at heads e
    dsimp only
    rw [heads, e, Nat.zero_add]
    rfl
  · exact (((State.haltEach_tells _ _).pool ((s.emptiesCond_sparesPool p).pool pool)).2.2.1 l).1

/-! ### What a demotion leaves -/

section demotion

variable (s : State) (p : PlatenIx)

theorem State.demoted_nodup : (s.demoted p allHeads).Nodup := List.Nodup.filter _ (by decide)

theorem State.mem_demoted {h : HeadIx} : h ∈ s.demoted p allHeads ↔ s.heads[h.val].demotedWith p = true := by
  simp [State.demoted, mem_allHeads]

theorem State.tellDemotion_tells : s.Tells (s.tellDemotion p).1 := by
  obtain ⟨rs, e, -, -⟩ := s.tellDemotion_eq p
  rw [e]
  exact ((s.emptiesCond_sparesPool p).tells.trans (State.haltEach_tells _ _)).trans (State.closeEach_tells _ _)

/-- A conditioner without permission has no holder and its arm is up or on its way up. -/
theorem State.tellDemotion_rests (hm : s.platens[p.val].mode.code < 3) : (s.tellDemotion p).1.conds[p.val].Rests := by
  obtain ⟨rs, e, -, -⟩ := s.tellDemotion_eq p
  rw [e]
  exact State.closeEach_rests _ rs p (State.haltEach_rests _ _ p (s.emptiesCond_rests p hm))

/-- A head that works for the platen is HALTED with PLATEN-MODE. -/
theorem State.tellDemotion_halts (h : HeadIx) (hd : s.heads[h.val].demotedWith p = true) :
    (s.tellDemotion p).1.heads[h.val].state = .halted ∧ (s.tellDemotion p).1.heads[h.val].haltReason = some .platenMode := by
  obtain ⟨rs, e, -, -⟩ := s.tellDemotion_eq p
  rw [e]
  have halted := State.haltEach_halts (s.demoted p allHeads) (s.demoted_nodup p) (s.emptiesCond p)
    (fun k hk => by rw [s.emptiesCond_heads p]; exact Head.not_halted_of_demotedWith ((s.mem_demoted p).mp hk)) h ((s.mem_demoted p).mpr hd)
  have stays := forEach_closeAndTell_halted .platenMode rs ((s.emptiesCond p).haltEach (s.demoted p allHeads)) h halted.1
  exact ⟨(congrArg Head.state stays).trans halted.1, (congrArg Head.haltReason stays).trans halted.2⟩

/-- A head that works for no step of the platen and uses no dose directed to it is as before. -/
theorem State.tellDemotion_head (h : HeadIx) (hd : s.heads[h.val].demotedWith p = false)
    (hp : ∀ r, s.heads[h.val].dose = some r → s.recs[r.val].platen ≠ some p) :
    (s.tellDemotion p).1.heads[h.val] = s.heads[h.val] := by
  obtain ⟨rs, e, mem, -⟩ := s.tellDemotion_eq p
  have spared : ((s.emptiesCond p).haltEach (s.demoted p allHeads)).heads[h.val] = s.heads[h.val] := by
    have out : h ∉ s.demoted p allHeads := fun c => by
      rw [s.mem_demoted p, hd] at c
      cases c
    rw [State.haltEach_head _ _ _ out, s.emptiesCond_heads p]
  rw [e]
  refine (State.closeEach_head rs _ h fun r hr hdose => ?_).trans spared
  obtain ⟨l, -, hr⟩ := (mem r).mp hr
  obtain ⟨-, -, directed, -⟩ := State.mem_unpermitted.mp hr
  rw [spared] at hdose
  rw [(State.haltEach_orders _ _).platen r, (s.emptiesCond_sparesPool p).recs] at directed
  exact hp r hdose directed

/-- The doses that a demotion closes: OPENING or FLOWING, directed to the platen, not permitted in its mode, and no halted head's. -/
def State.Closes (r : RecIx) : Prop :=
  s.recs[r.val].state.live = true ∧ s.recs[r.val].platen = some p ∧ permitted s.platens[p.val].mode s.recs[r.val].service = false
    ∧ ∀ h : HeadIx, s.heads[h.val].demotedWith p = true → s.heads[h.val].dose ≠ some r

/-- Among records in their places, what is left to close after the halts. -/
theorem State.closes_iff (pool : s.PoolWellKept) (r : RecIx) :
    (∃ l ∈ allLines, r ∈ ((s.emptiesCond p).haltEach (s.demoted p allHeads)).unpermitted l p) ↔ s.Closes p r := by
  have spared := s.emptiesCond_sparesPool p
  have told := (s.emptiesCond p).haltEach_tells (s.demoted p allHeads)
  have orders := (s.emptiesCond p).haltEach_orders (s.demoted p allHeads)
  have live := State.haltEach_live (s.demoted p allHeads) (s.demoted_nodup p) (s.emptiesCond p)
    (fun k hk => by rw [s.emptiesCond_heads p]; exact Head.not_halted_of_demotedWith ((s.mem_demoted p).mp hk)) r
  have stays := State.haltEach_rec (s.demoted p allHeads) (s.demoted_nodup p) (s.emptiesCond p) (spared.pool pool) r
  have places := told.pool (spared.pool pool)
  have mode := (told.modes p).trans (spared.modes p)
  have eligible := (State.KeepsOrders.of_recs spared.recs).eligible spared.toKeeps r
  simp only [s.mem_demoted p, s.emptiesCond_heads p, spared.recs, eligible] at live stays
  have platen := orders.platen r
  have service := orders.service r
  rw [spared.recs] at platen service
  simp only [State.mem_unpermitted, platen, service, mode]
  constructor
  · rintro ⟨l, -, -, hl, hp, hm⟩
    rcases live hl with ⟨hl', hd⟩ | el
    · exact ⟨hl', hp, hm, hd⟩
    · rw [State.eligible_of_platen hp, hm] at el
      cases el
  · rintro ⟨hl, hp, hm, hd⟩
    have same := stays hl hd
    have admitted : ((s.emptiesCond p).haltEach (s.demoted p allHeads)).recs[r.val].state.admitted = true := by
      rw [same]
      exact DoseState.admitted_of_live hl
    exact ⟨_, mem_allLines _, places.mem_admitted.mpr ⟨admitted, rfl⟩, by rw [same]; exact hl, hp, hm⟩

/-- Among records in their places, each dose to close is CLOSING with PLATEN-MODE. -/
theorem State.tellDemotion_closes (pool : s.PoolWellKept) (r : RecIx) (h : s.Closes p r) :
    (s.tellDemotion p).1.recs[r.val].state = .closing ∧ (s.tellDemotion p).1.recs[r.val].reason = some .platenMode := by
  obtain ⟨rs, e, mem, -⟩ := s.tellDemotion_eq p
  have todo := (s.closes_iff p pool r).mpr h
  obtain ⟨l, -, hl⟩ := id todo
  rw [e, State.closeEach_rec, if_pos ⟨(mem r).mpr todo, (State.mem_unpermitted.mp hl).2.1⟩]
  exact ⟨rfl, rfl⟩

/-- Among records in their places, a dose of the platen that is OPENING or FLOWING after a demotion is permitted. -/
theorem State.tellDemotion_live (pool : s.PoolWellKept) (r : RecIx) (hl : (s.tellDemotion p).1.recs[r.val].state.live = true)
    (hp : (s.tellDemotion p).1.recs[r.val].platen = some p) : (s.tellDemotion p).1.eligible r = true := by
  obtain ⟨rs, e, mem, -⟩ := s.tellDemotion_eq p
  have modes := (s.tellDemotion_tells p).modes p
  rw [State.eligible_of_platen hp, modes]
  rw [e, State.closeEach_rec] at hl hp ⊢
  have told := (s.emptiesCond_sparesPool p).tells.trans ((s.emptiesCond p).haltEach_tells (s.demoted p allHeads))
  split at hl
  · simp [DoseState.live] at hl
  · next out =>
    rw [if_neg out] at hp ⊢
    by_contra hm
    have admitted := (told.pool pool).mem_admitted.mpr ⟨DoseState.admitted_of_live hl, rfl⟩
    refine out ⟨(mem r).mpr ⟨_, mem_allLines _, State.mem_unpermitted.mpr ⟨admitted, hl, hp, ?_⟩⟩, hl⟩
    rw [told.modes p]
    exact Bool.eq_false_iff.mpr hm

/-- Among records in their places, the count of the doses closed is that of the doses to close. -/
theorem State.tellDemotion_counts (pool : s.PoolWellKept) (closes : List RecIx) (once : closes.Nodup)
    (mem : ∀ r, r ∈ closes ↔ s.Closes p r) :
    (s.tellDemotion p).2 = ((s.demoted p allHeads).length, closes.length) := by
  obtain ⟨rs, e, mem', once'⟩ := s.tellDemotion_eq p
  have same : rs.Perm closes := (List.perm_ext_iff_of_nodup (once' pool) once).mpr fun r => by
    rw [mem' r, s.closes_iff p pool r, mem r]
  rw [e, same.length_eq]

end demotion

end Sys2Proof.Machine
end

section
/-! A promotion to POLISHING: the heads that waited in ARMED go to work, each undisturbed by the others (R54, R7, R8, R11). -/

namespace Sys2Proof.Machine

/-! ### Entries to PRESSING and WETTING -/

theorem Head.startSettle_frame (d : Head) (now : Nat) : (d.startSettle now).updateDue = d.updateDue
    ∧ (d.startSettle now).endpoint = d.endpoint ∧ (d.startSettle now).dose = d.dose
    ∧ (d.startSettle now).pressStart = d.pressStart := by
  unfold Head.startSettle
  split <;> exact ⟨rfl, rfl, rfl, rfl⟩

theorem Head.compute_timers (d : Head) (now : Nat) : (d.compute now).updateDue = d.updateDue
    ∧ (d.compute now).endpoint = d.endpoint ∧ (d.compute now).dose = d.dose := by
  rw [Head.compute_eq]
  split
  · obtain ⟨due, endpoint, dose, -⟩ := (d.staged now).startSettle_frame now
    exact ⟨due, endpoint, dose⟩
  · exact ⟨rfl, rfl, rfl⟩

theorem State.pressOn_sparesPool (s : State) (h : HeadIx) (t : Step) : s.SparesPool (s.pressOn h t) := by
  have computes : ∀ u : State, u.SparesPool (u.modHead h fun d => d.compute s.now) := fun u =>
    u.modHead_sparesPool h _ (Head.compute_keeps _ _) (Head.compute_timers _ _).2.2
  unfold State.pressOn
  dsimp only
  split
  · refine State.SparesPool.trans ?_ (computes _)
    exact .of_flow (s.modCond_keepsPool t.platen (fun c => c.joinHead h s.now) (Conditioner.joined_profile _ _ _)) ⟨rfl, rfl, rfl⟩ rfl
  · exact computes s

/-- The pool is spared, or it is up to a halt of head `h`. -/
def State.SparesOrHalts (h : HeadIx) (s t : State) : Prop :=
  s.SparesPool t ∨ ∃ v why watch, s.SparesPool v ∧ t = v.haltHead h why none watch

theorem State.SparesOrHalts.after {h : HeadIx} {a b c : State} (x : a.SparesPool b) (y : State.SparesOrHalts h b c) :
    State.SparesOrHalts h a c :=
  y.imp x.trans fun ⟨v, why, watch, z, e⟩ => ⟨v, why, watch, x.trans z, e⟩

/-- The head as it enters PRESSING, before its watch is bound (R11, R35). -/
def State.pressed (s : State) (h : HeadIx) (t : Step) : State :=
  let s1 := (s.modHead h fun d =>
    { (d.mapZones fun _ z => { z with rampStart := if z.mode = .pressure then (z.command : Int) else 0, deviating := none }) with
      state := .pressing, pressStart := s.now, endpoint := none, supervision := .ramping,
      updateDue := some (s.now + Config.updatePeriod) }).setModes h fun _ => .pressure
  if t.rampTime = 0 then s1.modHead h fun d => d.startSettle s.now else s1

theorem State.enterPressing_of_step {s : State} {h : HeadIx} {t : Step} (e : s.heads[h.val].step = some t) :
    s.enterPressing h = match t.watch with
      | none => (s.pressed h t).pressOn h t
      | some w =>
        if (s.pressed h t).watches[w.val].state = .undefined then (s.pressed h t).haltHead h .watchMissing none (some w)
        else if (s.pressed h t).watches[w.val].bound.isSome && (s.pressed h t).watches[w.val].bound != some h then
          (s.pressed h t).haltHead h .watchBusy none (some w)
        else ((s.pressed h t).bind w h).pressOn h t := by
  unfold State.enterPressing
  rw [e]
  rfl

theorem State.pressed_sparesPool (s : State) (h : HeadIx) (t : Step) : s.SparesPool (s.pressed h t) := by
  unfold State.pressed
  have begun := (s.modHead_sparesPool h (fun d =>
    { (d.mapZones fun _ z => { z with rampStart := if z.mode = .pressure then (z.command : Int) else 0, deviating := none }) with
      state := .pressing, pressStart := s.now, endpoint := none, supervision := .ramping,
      updateDue := some (s.now + Config.updatePeriod) })
        ⟨rfl, rfl, fun z => by simp, fun z => by simp, fun z => by simp⟩ rfl).trans
    (State.setModes_sparesRest _ h fun _ => .pressure).toSparesPool
  dsimp only
  split
  · exact begun.trans (State.modHead_sparesPool _ h _ (Head.startSettle_keeps _ _) (Head.startSettle_frame _ _).2.2.1)
  · exact begun

/-- What the entry to PRESSING makes of its head before the computation (R11, R35). -/
theorem State.pressed_head (s : State) (h : HeadIx) (t : Step) :
    (s.pressed h t).heads[h.val].state = .pressing ∧ (s.pressed h t).heads[h.val].pressStart = s.now
      ∧ (s.pressed h t).heads[h.val].updateDue = some (s.now + 10) ∧ (s.pressed h t).heads[h.val].endpoint = none
      ∧ ∀ z : ZoneIx, (s.pressed h t).heads[h.val].zones[z.val].mode = .pressure
        ∧ (s.pressed h t).heads[h.val].zones[z.val].rampStart
          = if s.heads[h.val].zones[z.val].mode = .pressure then (s.heads[h.val].zones[z.val].command : Int) else 0 := by
  unfold State.pressed
  dsimp only
  split
  · simp only [State.modHead_get, Head.startSettle_state, Head.startSettle_frame]
    refine ⟨by simp [State.setModes], by simp [State.setModes], by simp [State.setModes, Config.updatePeriod],
      by simp [State.setModes], fun z => ?_⟩
    obtain ⟨x, hx⟩ := Head.startSettle_zone (State.heads (State.setModes (s.modHead h fun d =>
      { (d.mapZones fun _ z => { z with rampStart := if z.mode = .pressure then (z.command : Int) else 0, deviating := none }) with
        state := .pressing, pressStart := s.now, endpoint := none, supervision := .ramping,
        updateDue := some (s.now + Config.updatePeriod) }) h fun _ => .pressure))[h.val] s.now z
    rw [hx]
    simp [State.setModes, Zone.setMode]
  · simp [State.setModes, Zone.setMode, Config.updatePeriod]

theorem State.enterPressing_sparesOrHalts (s : State) (h : HeadIx) : State.SparesOrHalts h s (s.enterPressing h) := by
  cases e : s.heads[h.val].step with
  | none =>
    unfold State.enterPressing
    rw [e]
    exact .inl (.refl s)
  | some t =>
    have begun := s.pressed_sparesPool h t
    rw [State.enterPressing_of_step e]
    cases t.watch with
    | none => exact .inl (begun.trans (State.pressOn_sparesPool _ h t))
    | some w =>
      dsimp only
      split
      · exact .inr ⟨_, _, _, begun, rfl⟩
      · split
        · exact .inr ⟨_, _, _, begun, rfl⟩
        · have bound : (s.pressed h t).SparesPool ((s.pressed h t).bind w h) :=
            .of_flow (State.bind_keepsPool _ w h) ⟨rfl, rfl, rfl⟩ rfl
          exact .inl ((begun.trans bound).trans (State.pressOn_sparesPool _ h t))

/-- A head WETTING from the present moment. -/
def State.wetted (s : State) (h : HeadIx) : State :=
  s.modHead h fun d => { d with state := .wetting, entered := s.now, snapshot := [] }

theorem State.enterWetting_sparesOrHalts (s : State) (h : HeadIx) : State.SparesOrHalts h s (s.enterWetting h) := by
  have wetted : s.SparesPool (s.wetted h) := s.modHead_sparesPool h _ ⟨rfl, rfl, fun _ => rfl, fun _ => rfl, fun _ => rfl⟩ rfl
  unfold State.enterWetting
  split
  · exact .inl (.refl s)
  · dsimp only
    split
    · exact (State.enterPressing_sparesOrHalts _ h).after wetted
    · exact .inl wetted

/-- A step that names no watch is pressed on (R11). -/
theorem State.enterPressing_enters (s : State) (h : HeadIx) (t : Step) (e : s.heads[h.val].step = some t) (hw : t.watch = none) :
    s.EntersPressing (s.enterPressing h) h := by
  obtain ⟨state, start, due, endpoint, zones⟩ := s.pressed_head h t
  have spared := s.pressed_sparesPool h t
  have now := (s.enterPressing_keepsPool h).now
  have result : (s.enterPressing h).heads[h.val] = (s.pressed h t).heads[h.val].compute s.now := by
    rw [State.enterPressing_of_step e, hw, ← spared.now]
    exact State.pressOn_head _ h t
  have timers := (s.pressed h t).heads[h.val].compute_timers s.now
  refine ⟨?_, ⟨?_, ?_, ?_⟩, ?_, fun z => ?_⟩ <;> rw [result]
  · exact (Head.compute_state _ _).trans state
  · exact (Head.compute_frame _ _).2.1.trans (start.trans now.symm)
  · rw [timers.1, due, now]
  · exact timers.2.1.trans endpoint
  · exact timers.2.2.trans (spared.dose h)
  · obtain ⟨ramp, mode, -, -⟩ := Head.compute_zone_frame (s.pressed h t).heads[h.val] s.now z
    exact ⟨mode.trans (zones z).1, ramp.trans (zones z).2⟩

/-! ### A submission -/

/-- The record that head `h` submits for the step `t` on line `l`, queued (R8). -/
def State.submits (s : State) (h : HeadIx) (t : Step) (r : RecIx) (l : LineIx) : State :=
  (s.modHead h fun d => { d with dose := some r }).enqueue r
    (headDose t l (s.platens[t.platen.val].config.classFor t.purpose) s.now)

/-- A head in SLURRY-WAIT stays as it is, halts, or submits its dose and its line makes an attempt (R8). -/
theorem State.submitHead_cases (s : State) (h : HeadIx) :
    s.submitHead h = s ∨ s.submitHead h = s.haltHead h .lineOffline none none
      ∨ ∃ t r l, s.idleRecord h = some r ∧ s.submitHead h = (s.submits h t r l).attempt l := by
  unfold State.submitHead
  split
  · next t r _ hr =>
    split
    · exact .inl rfl
    · next l _ =>
      dsimp only
      split
      · exact .inr (.inl rfl)
      · exact .inr (.inr ⟨t, r, l, hr, rfl⟩)
  · exact .inl rfl

theorem State.idleRecord_some {s : State} {h : HeadIx} {r : RecIx} (e : s.idleRecord h = some r) :
    s.recs[r.val].state = .idle ∧ ownerOf r = some h := by
  refine ⟨by simpa using List.find?_some e, ?_⟩
  have mem := List.mem_of_find?_eq_some e
  simp only [List.mem_cons, List.not_mem_nil, or_false] at mem
  have := h.isLt
  unfold ownerOf
  rcases mem with rfl | rfl
  · rw [dif_pos (by dsimp only; omega)]
    exact congrArg some (Fin.ext (by dsimp only; omega))
  · rw [dif_pos (by dsimp only; omega)]
    exact congrArg some (Fin.ext (by dsimp only; omega))

theorem State.submits_rec (s : State) (h : HeadIx) (t : Step) (r k : RecIx) (l : LineIx) : (s.submits h t r l).recs[k.val]
    = if k = r then
        { headDose t l (s.platens[t.platen.val].config.classFor t.purpose) s.now with
          state := .queued, sequence := nextSequence s.counter, since := s.now }
      else s.recs[k.val] := State.enqueue_rec _ r k _

theorem State.submits_tells (s : State) (h : HeadIx) (t : Step) (r : RecIx) (l : LineIx) (e : s.idleRecord h = some r) :
    s.Tells (s.submits h t r l) := by
  obtain ⟨idle, owned⟩ := State.idleRecord_some e
  have given := s.modHead_keepsPool' h (fun d => { d with dose := some r }) rfl rfl rfl
  refine ⟨given.toKeeps.trans (State.enqueue_keeps _ r _), .of_link rfl, fun k => .inl ?_, fun pool => ?_⟩
  · unfold State.submits
    rw [State.enqueue_line]
    split <;> rfl
  · have held := s.modHead_pool h (fun d => { d with dose := some r }) (fun k e => .inr (Option.some.inj e ▸ owned)) pool
    exact held.relocates (State.enqueue_relocates _ r _ held idle rfl)

/-! ### Work that passes another head by -/

/-- What the work of the other heads leaves of head `h`: the head itself, and its two records but for an opening. -/
structure State.PassesBy (h : HeadIx) (s t : State) : Prop extends s.Tells t where
  head : t.heads[h.val] = s.heads[h.val]
  recs : s.PoolWellKept → ∀ r : RecIx, ownerOf r = some h → t.recs[r.val] = s.recs[r.val]
    ∨ (s.recs[r.val].state = .queued ∧ t.recs[r.val] = { s.recs[r.val] with state := .opening, since := s.now })

theorem State.PassesBy.refl (h : HeadIx) (s : State) : State.PassesBy h s s := ⟨.refl s, rfl, fun _ _ _ => .inl rfl⟩

theorem State.PassesBy.trans {h : HeadIx} {a b c : State} (x : State.PassesBy h a b) (y : State.PassesBy h b c) :
    State.PassesBy h a c := by
  refine ⟨x.toTells.trans y.toTells, y.head.trans x.head, fun pool r owned => ?_⟩
  have later := y.recs (x.pool pool) r owned
  rcases x.recs pool r owned with e | ⟨q, e⟩ <;> rw [e] at later
  · rw [x.now] at later
    exact later
  · exact later.elim (fun e' => .inr ⟨q, e'⟩) fun e' => nomatch e'.1

theorem State.attempt_passesBy (h : HeadIx) (s : State) (l : LineIx) : State.PassesBy h s (s.attempt l) :=
  ⟨s.attempt_tells l, by rw [s.attempt_heads l], fun pool r _ => (s.attempt_opensInPlace l).opens pool r⟩

theorem State.round_passesBy (h : HeadIx) (s : State) (p : PlatenIx) (asked : State → LineIx → Bool) :
    State.PassesBy h s (s.round p asked) :=
  State.round_rel (.refl h) .trans (State.attempt_passesBy h) s p asked

theorem State.haltHead_passesBy (s : State) (h k : HeadIx) (why : HaltReason) (zone : Option ZoneIx) (watch : Option WatchIx)
    (ne : h ≠ k) : State.PassesBy h s (s.haltHead k why zone watch) :=
  ⟨s.haltHead_tells k why zone watch, s.haltHead_only k why zone watch h ne, fun pool r owned =>
    s.haltHead_rec k why zone watch r pool fun e => ne (Option.some.inj (owned.symm.trans (pool.owner e)))⟩

theorem State.SparesOrHalts.passesBy {h k : HeadIx} {s t : State} (x : State.SparesOrHalts k s t) (only : State.OnlyHead k s t)
    (ne : h ≠ k) : State.PassesBy h s t := by
  refine ⟨?_, only h ne, fun pool r owned => ?_⟩
  · rcases x with spared | ⟨v, why, watch, spared, rfl⟩
    · exact spared.tells
    · exact spared.tells.trans (v.haltHead_tells k _ _ _)
  · rcases x with spared | ⟨v, why, watch, spared, rfl⟩
    · exact .inl (by rw [spared.recs])
    · have halted := (v.haltHead_passesBy h k why none watch ne).recs (spared.pool pool) r owned
      rw [spared.recs, spared.now] at halted
      exact halted

theorem State.submitHead_passesBy (s : State) (h k : HeadIx) (ne : h ≠ k) : State.PassesBy h s (s.submitHead k) := by
  obtain e | e | ⟨t, r, l, hr, e⟩ := s.submitHead_cases k <;> rw [e]
  · exact .refl h s
  · exact s.haltHead_passesBy h k _ _ _ ne
  · refine State.PassesBy.trans ⟨s.submits_tells k t r l hr, ?_, fun _ x owned => .inl ?_⟩ (State.attempt_passesBy h _ l)
    · exact s.modHead_get_ne k (fun d => { d with dose := some r }) h ne
    · rw [State.submits_rec, if_neg]
      rintro rfl
      exact ne (Option.some.inj (owned.symm.trans (State.idleRecord_some hr).2))

/-- The head that takes up its step's slurry, before its submission. -/
def State.awaitsSlurry (s : State) (h : HeadIx) : State := s.modHead h fun d => { d with state := .slurryWait, dose := none }

/-- A head in ARMED that tests R7 passes every other head by. -/
theorem State.testArmed_passesBy (s : State) (h k : HeadIx) (ne : h ≠ k) : State.PassesBy h s (s.testArmed k) := by
  have waits : State.PassesBy h s (s.awaitsSlurry k) :=
    ⟨⟨(s.modHead_keepsPool' k _ rfl rfl rfl).toKeeps, .of_link rfl, .of_lines rfl, s.modHead_pool k _ (fun _ e => by cases e)⟩,
      s.modHead_get_ne k _ h ne, fun _ _ _ => .inl rfl⟩
  unfold State.testArmed
  dsimp only
  split
  · exact .refl h s
  · split
    · split
      · exact waits.trans (State.submitHead_passesBy _ h k ne)
      · exact (s.enterWetting_sparesOrHalts k).passesBy (s.enterWetting_only k) ne
    · exact .refl h s

/-- What the test of R7 tells the rest of the part is what any other head sees of it. -/
theorem State.testArmed_tells (s : State) (h : HeadIx) : s.Tells (s.testArmed h) :=
  (s.testArmed_passesBy (h + 1) h (by revert h; decide)).toTells

/-! ### A head that leaves ARMED -/

/-- What the outcome of R7 rests on is a head's own, and line and platen settings. -/
theorem State.PassesBy.idleRecord {h : HeadIx} {s t : State} (x : State.PassesBy h s t) (pool : s.PoolWellKept) :
    t.idleRecord h = s.idleRecord h := by
  have same : ∀ r : RecIx, ownerOf r = some h → (t.recs[r.val].state == .idle) = (s.recs[r.val].state == .idle) := fun r owned => by
    rcases x.recs pool r owned with e | ⟨q, e⟩
    · rw [e]
    · rw [e, q]
      rfl
  have := h.isLt
  have own : ∀ r : RecIx, r.val / 2 = h.val → ownerOf r = some h := fun r e => by
    unfold ownerOf
    rw [dif_pos (by omega)]
    exact congrArg some (Fin.ext e)
  unfold State.idleRecord
  simp only [List.find?_cons]
  rw [same _ (own ⟨2 * h.val, by omega⟩ (by dsimp only; omega)), same _ (own ⟨2 * h.val + 1, by omega⟩ (by dsimp only; omega))]
  rfl

theorem State.Tells.lineChecks {s t : State} (x : s.Tells t) (l : LineIx) (p : PlatenIx) (peak : Nat) :
    t.lineChecks l p peak = s.lineChecks l p peak := by
  unfold State.lineChecks
  dsimp only
  rw [x.lineConfig l, x.platenConfig p]
  rcases x.serves l with e | ⟨q, e⟩
  · rw [e]
  · rw [e, q]
    rfl

/-- What follows for a head that leaves ARMED rests on the head, on its IDLE record and on the checks of its line. -/
theorem State.LeavesArmed.of_same {h : HeadIx} {a b c : State} {k : Step} (y : b.LeavesArmed c h k)
    (head : b.heads[h.val] = a.heads[h.val]) (idle : b.idleRecord h = a.idleRecord h)
    (checks : ∀ l, b.lineChecks l k.platen k.rate = a.lineChecks l k.platen k.rate) : a.LeavesArmed c h k := by
  obtain ⟨presses, works⟩ := y
  refine ⟨fun hl hw => ?_, fun l hl => ?_⟩
  · obtain ⟨state, clock, dose, zones⟩ := presses hl hw
    rw [head] at dose zones
    exact ⟨state, clock, dose, zones⟩
  · rw [← idle, ← checks l]
    exact works l hl

/-- Work that passes the head by changes nothing of it. -/
theorem State.LeavesArmed.trans_passesBy {h : HeadIx} {a c d : State} {k : Step} (y : a.LeavesArmed c h k)
    (z : State.PassesBy h c d) (pool : c.PoolWellKept) : a.LeavesArmed d h k := by
  obtain ⟨presses, works⟩ := y
  refine ⟨fun hl hw => ?_, fun l hl => ?_⟩
  · obtain ⟨state, clock, dose, zones⟩ := presses hl hw
    rw [← z.head] at state clock dose zones
    rw [← z.now] at clock
    exact ⟨state, clock, dose, zones⟩
  · rw [z.head]
    refine ⟨(works l hl).1, fun r idle => ⟨fun fits => ?_, ((works l hl).2 r idle).2⟩⟩
    obtain ⟨state, dose, line, platen, label, segments, course⟩ := ((works l hl).2 r idle).1 fits
    refine ⟨state, dose, ?_⟩
    rcases z.recs pool r (State.idleRecord_some idle).2 with e | ⟨-, e⟩ <;> rw [e]
    · exact ⟨line, platen, label, segments, course⟩
    · exact ⟨line, platen, label, segments, .inr rfl⟩

/-- A head that waits in ARMED for the permission to press alone leaves it for work (R7). -/
theorem State.testArmed_leaves (s : State) (h : HeadIx) (t : Step) (hs : s.heads[h.val].step = some t)
    (armed : s.heads[h.val].state = .armed) (mark : s.heads[h.val].indexMark = false) (snapshot : s.heads[h.val].snapshot = [])
    (press : s.platens[t.platen.val].mode = .polishing) : s.LeavesArmed (s.testArmed h) h t := by
  have leaves : s.testArmed h = if t.line.isSome then (s.awaitsSlurry h).submitHead h else s.enterWetting h := by
    unfold State.testArmed
    dsimp only
    rw [hs]
    dsimp only
    rw [if_pos ⟨armed, mark, by rw [press]; rfl, snapshot⟩]
    rfl
  refine ⟨fun hl hw => ?_, fun l hl => ?_⟩
  · have step : (s.wetted h).heads[h.val].step = some t := by
      rw [State.wetted, State.modHead_get]
      exact hs
    have pressing : s.testArmed h = (s.wetted h).enterPressing h := by
      rw [leaves, if_neg (by simp [hl])]
      unfold State.enterWetting
      rw [hs]
      dsimp only
      rw [if_pos (by simp [hl])]
      rfl
    rw [pressing]
    obtain ⟨state, clock, dose, zones⟩ := (s.wetted h).enterPressing_enters h t step hw
    have wetted := s.modHead_get h fun d => { d with state := .wetting, entered := s.now, snapshot := [] }
    rw [State.wetted, wetted] at dose zones
    exact ⟨state, clock, dose, zones⟩
  · have step : (s.awaitsSlurry h).heads[h.val].step = some t := by
      rw [State.awaitsSlurry, State.modHead_get]
      exact hs
    have waiting : (s.awaitsSlurry h).heads[h.val].state = .slurryWait ∧ (s.awaitsSlurry h).heads[h.val].dose = none := by
      rw [State.awaitsSlurry, State.modHead_get]
      exact ⟨rfl, rfl⟩
    have submits : s.testArmed h = match s.idleRecord h with
        | none => s.awaitsSlurry h
        | some r => if (s.lineChecks l t.platen t.rate).isSome then (s.awaitsSlurry h).haltHead h .lineOffline none none
          else ((s.awaitsSlurry h).submits h t r l).attempt l := by
      rw [leaves, hl]
      unfold State.submitHead
      rw [step]
      have idle : (s.awaitsSlurry h).idleRecord h = s.idleRecord h := rfl
      rw [idle]
      cases s.idleRecord h with
      | none => rfl
      | some r =>
        dsimp only
        rw [hl]
        rfl
    rw [submits]
    refine ⟨fun busy => ?_, fun r idle => ⟨fun fits => ?_, fun fails => ?_⟩⟩
    · rw [busy]
      exact waiting
    · rw [idle, fits]
      dsimp only
      rw [if_neg (by simp), State.attempt_heads]
      have head : ((s.awaitsSlurry h).submits h t r l).heads[h.val] = { (s.awaitsSlurry h).heads[h.val] with dose := some r } :=
        (s.awaitsSlurry h).modHead_get h fun d => { d with dose := some r }
      have queued := (s.awaitsSlurry h).submits_rec h t r r l
      rw [if_pos rfl] at queued
      rw [head]
      refine ⟨waiting.1, rfl, ?_⟩
      rcases (State.attempt_admits ((s.awaitsSlurry h).submits h t r l) l).recs r with e | ⟨-, e⟩ <;> rw [e, queued]
      · exact ⟨rfl, rfl, rfl, rfl, .inl rfl⟩
      · exact ⟨rfl, rfl, rfl, rfl, .inr rfl⟩
    · rw [idle]
      dsimp only
      rw [if_pos (Option.isSome_iff_ne_none.mpr fails)]
      exact ⟨State.haltHead_state _ h _ _ _, (State.haltHead_reason _ h _ _ _ (by rw [waiting.1]; decide)).1⟩

end Sys2Proof.Machine
end

section
/-! PLATEN-MODE: the change of a mode, told to the neighbours and followed by the platen's round (R50 to R54, R56). -/

namespace Sys2Proof.Machine

/-! ### The telling of a promotion (R54) -/

/-- A head that does not wait for the permission to press stays. -/
theorem State.testArmed_stays (s : State) (h : HeadIx) (hn : ∀ t, s.heads[h.val].step = some t →
    ¬ (s.heads[h.val].state = .armed ∧ s.heads[h.val].indexMark = false ∧ s.heads[h.val].snapshot = [])) : s.testArmed h = s := by
  unfold State.testArmed
  dsimp only
  split
  · rfl
  · next t e => exact if_neg fun ⟨armed, mark, _, snapshot⟩ => hn t e ⟨armed, mark, snapshot⟩

/-- What one head does when platen `p` enters POLISHING. -/
def State.promoteHead (p : PlatenIx) (h : HeadIx) (s : State) : State :=
  if (s.heads[h.val].step.map Step.platen) = some p then s.testArmed h else s

theorem State.promoteHead_passesBy (p : PlatenIx) (s : State) (h k : HeadIx) (ne : h ≠ k) :
    State.PassesBy h s (State.promoteHead p k s) := by
  unfold State.promoteHead
  split
  · exact s.testArmed_passesBy h k ne
  · exact .refl h s

theorem State.promoteEach_passesBy (p : PlatenIx) (h : HeadIx) (ks : List HeadIx) (hn : h ∉ ks) (s : State) :
    State.PassesBy h s (forEach ks (State.promoteHead p) s) := by
  induction ks generalizing s with
  | nil => exact .refl h s
  | cons k ks ih =>
    exact (s.promoteHead_passesBy p h k fun c => hn (c ▸ List.mem_cons_self ..)).trans (ih (fun c => hn (List.mem_cons_of_mem _ c)) _)

/-- A promotion to POLISHING is, for each head, its own turn between work that passes it by. -/
theorem State.tellPromotion_split (s : State) (p : PlatenIx) (hm : s.platens[p.val].mode = .polishing) (h : HeadIx) :
    ∃ v, State.PassesBy h s v ∧ State.PassesBy h (State.promoteHead p h v) (s.tellPromotion p) := by
  obtain ⟨before, after, e⟩ := List.append_of_mem (mem_allHeads h)
  have once : (before ++ h :: after).Nodup := e ▸ (by decide)
  obtain ⟨-, last, apart⟩ := List.nodup_append.mp once
  have told : s.tellPromotion p = forEach after (State.promoteHead p) (State.promoteHead p h (forEach before (State.promoteHead p) s)) := by
    rw [← forEach_cons, ← forEach_append, ← e]
    exact if_pos hm
  refine ⟨_, State.promoteEach_passesBy p h before (fun c => apart h c h (List.mem_cons_self ..) rfl) s, ?_⟩
  rw [told]
  exact State.promoteEach_passesBy p h after (List.nodup_cons.mp last).1 _

theorem State.tellPromotion_of_ne (s : State) (p : PlatenIx) (hm : s.platens[p.val].mode ≠ .polishing) :
    s.tellPromotion p = s := if_neg hm

theorem State.tellPromotion_tells (s : State) (p : PlatenIx) : s.Tells (s.tellPromotion p) := by
  unfold State.tellPromotion
  split
  · refine forEach_rel .refl .trans _ _ (fun k s => ?_) s
    split
    · exact s.testArmed_tells k
    · exact .refl s
  · exact .refl s

/-- A head that does not wait for the platen is as before. -/
theorem State.tellPromotion_head (s : State) (p : PlatenIx) (h : HeadIx)
    (hn : ∀ t, ¬ (s.heads[h.val].state = .armed ∧ s.heads[h.val].indexMark = false ∧ s.heads[h.val].snapshot = []
      ∧ s.heads[h.val].step = some t ∧ t.platen = p)) : (s.tellPromotion p).heads[h.val] = s.heads[h.val] := by
  by_cases hm : s.platens[p.val].mode = .polishing
  · obtain ⟨v, first, last⟩ := s.tellPromotion_split p hm h
    have stays : State.promoteHead p h v = v := by
      unfold State.promoteHead
      rw [first.head]
      split
      · next e =>
        refine v.testArmed_stays h fun t ht ⟨armed, mark, snapshot⟩ => ?_
        rw [first.head] at ht armed mark snapshot
        rw [ht] at e
        exact hn t ⟨armed, mark, snapshot, ht, Option.some.inj e⟩
      · rfl
    rw [last.head, stays, first.head]
  · rw [s.tellPromotion_of_ne p hm]

/-- Among records in their places, a head that waited for the platen in ARMED goes to work, whatever the others do (R7, R8, R11). -/
theorem State.tellPromotion_leaves (s : State) (p : PlatenIx) (hm : s.platens[p.val].mode = .polishing) (pool : s.PoolWellKept)
    (h : HeadIx) (t : Step) (hs : s.heads[h.val].step = some t) (hp : t.platen = p) (armed : s.heads[h.val].state = .armed)
    (mark : s.heads[h.val].indexMark = false) (snapshot : s.heads[h.val].snapshot = []) : s.LeavesArmed (s.tellPromotion p) h t := by
  subst hp
  obtain ⟨v, first, last⟩ := s.tellPromotion_split t.platen hm h
  have turn : State.promoteHead t.platen h v = v.testArmed h := by
    unfold State.promoteHead
    rw [first.head, hs]
    exact if_pos rfl
  rw [turn] at last
  have own := v.testArmed_leaves h t (by rw [first.head]; exact hs) (by rw [first.head]; exact armed) (by rw [first.head]; exact mark)
    (by rw [first.head]; exact snapshot) ((first.modes t.platen).trans hm)
  exact (own.of_same first.head (first.idleRecord pool) fun l => first.lineChecks l _ _).trans_passesBy last
    ((v.testArmed_tells h).pool (first.pool pool))

/-! ### The change of a mode (R50) -/

/-- The platen in its new mode. -/
def State.setMode (s : State) (p : PlatenIx) (m : Mode) : State := s.modPlaten p fun c => { c with mode := m }

section change

variable (s : State) (p : PlatenIx) (m : Mode)

theorem State.setMode_mode : (s.setMode p m).platens[p.val].mode = m := by simp [State.setMode]

theorem State.setMode_pool (pool : s.PoolWellKept) : (s.setMode p m).PoolWellKept :=
  pool.congr rfl rfl (fun _ => ⟨rfl, rfl⟩) fun _ _ e => pool.owner e

theorem State.changeMode_demotion (hm : m.code < s.platens[p.val].mode.code) : s.changeMode p m =
    (((s.setMode p m).tellDemotion p).1.round p fun _ _ => true, ((s.setMode p m).tellDemotion p).2.2,
      ((s.setMode p m).tellDemotion p).2.1) := by
  unfold State.changeMode
  dsimp only
  rw [if_pos hm]
  rfl

theorem State.changeMode_promotion (hm : ¬ m.code < s.platens[p.val].mode.code) : s.changeMode p m =
    (((s.setMode p m).tellPromotion p).round p fun _ _ => true, 0, 0) := by
  unfold State.changeMode
  dsimp only
  rw [if_neg hm]
  rfl

/-- What is told before the round. -/
theorem State.changeMode_round : ∃ v, (s.setMode p m).Tells v ∧ (s.changeMode p m).1 = v.round p fun _ _ => true := by
  by_cases hm : m.code < s.platens[p.val].mode.code
  · exact ⟨_, (s.setMode p m).tellDemotion_tells p, by rw [s.changeMode_demotion p m hm]⟩
  · exact ⟨_, (s.setMode p m).tellPromotion_tells p, by rw [s.changeMode_promotion p m hm]⟩

theorem State.changeMode_tells : (s.setMode p m).Tells (s.changeMode p m).1 := by
  obtain ⟨v, told, e⟩ := s.changeMode_round p m
  rw [e]
  exact told.trans (v.round_tells p _)

/-- The mode changes at once, and no other mode and no platen's configuration does. -/
theorem State.changeMode_platens : (s.changeMode p m).1.platens[p.val].mode = m
    ∧ (s.changeMode p m).1.platens[p.val].config = s.platens[p.val].config
    ∧ ∀ k : PlatenIx, k ≠ p → (s.changeMode p m).1.platens[k.val].mode = s.platens[k.val].mode := by
  have told := s.changeMode_tells p m
  refine ⟨(told.modes p).trans (s.setMode_mode p m), (told.platenConfig p).trans ?_, fun k ne => (told.modes k).trans ?_⟩
  · simp [State.setMode]
  · rw [State.setMode, State.modPlaten_get_ne _ _ _ _ ne]

/-- The round leaves no line in service with anything it could open. -/
theorem State.changeMode_exhausts (l : LineIx) (hs : s.stop = false)
    (hl : s.lines[l.val].state = .ready ∨ s.lines[l.val].state = .priming)
    (hw : ∀ c : ClassIx, 0 < s.lines[l.val].config.weights[c.val]) : (s.changeMode p m).1.Exhausted l := by
  obtain ⟨v, told, e⟩ := s.changeMode_round p m
  rw [e]
  exact v.round_exhausts p l (told.stop.trans hs) (told.serves.inService hl) fun c => by rw [told.lineConfig l]; exact hw c

end change

/-! ### A demotion with its round -/

section demotion

variable (s : State) (p : PlatenIx) (m : Mode) (hm : m.code < s.platens[p.val].mode.code)
include hm

theorem State.changeMode_demotion_halts (h : HeadIx) (hd : s.heads[h.val].demotedWith p = true) :
    (s.changeMode p m).1.heads[h.val].state = .halted ∧ (s.changeMode p m).1.heads[h.val].haltReason = some .platenMode := by
  rw [s.changeMode_demotion p m hm, (State.round_keeps _ p _).sameHeads]
  exact (s.setMode p m).tellDemotion_halts p h hd

theorem State.changeMode_demotion_head (h : HeadIx) (hd : s.heads[h.val].demotedWith p = false)
    (hp : ∀ r, s.heads[h.val].dose = some r → s.recs[r.val].platen ≠ some p) :
    (s.changeMode p m).1.heads[h.val] = s.heads[h.val] := by
  rw [s.changeMode_demotion p m hm, (State.round_keeps _ p _).sameHeads]
  exact (s.setMode p m).tellDemotion_head p h hd hp

theorem State.changeMode_demotion_rests (hc : m.code < 3) : (s.changeMode p m).1.conds[p.val].Rests := by
  rw [s.changeMode_demotion p m hm, (State.round_keeps _ p _).conds]
  exact (s.setMode p m).tellDemotion_rests p (by rw [s.setMode_mode p m]; exact hc)

theorem State.changeMode_demotion_closes (pool : s.PoolWellKept) (r : RecIx) (hr : (s.setMode p m).Closes p r) :
    (s.changeMode p m).1.recs[r.val].state = .closing ∧ (s.changeMode p m).1.recs[r.val].reason = some .platenMode := by
  have moded := s.setMode_pool p m pool
  have closing := (s.setMode p m).tellDemotion_closes p moded r hr
  rw [s.changeMode_demotion p m hm]
  rcases (State.round_opensInPlace _ p _).opens (((s.setMode p m).tellDemotion_tells p).pool moded) r with e | ⟨q, -⟩
  · rw [e]
    exact closing
  · rw [closing.1] at q
    cases q

/-- After a demotion every OPENING or FLOWING dose of the platen is permitted: what the round opens is eligible. -/
theorem State.changeMode_demotion_live (pool : s.PoolWellKept) (r : RecIx)
    (hl : (s.changeMode p m).1.recs[r.val].state.live = true) (hp : (s.changeMode p m).1.recs[r.val].platen = some p) :
    2 ≤ m.code ∨ (m.code = 1 ∧ (s.changeMode p m).1.recs[r.val].service = true) := by
  have eligible : (s.changeMode p m).1.eligible r = true := by
    rw [s.changeMode_demotion p m hm] at hl hp ⊢
    have opened := State.round_admits ((s.setMode p m).tellDemotion p).1 p fun _ _ => true
    rw [opened.eligible r]
    rcases opened.recs r with e | ⟨el, -⟩
    · exact (s.setMode p m).tellDemotion_live p (s.setMode_pool p m pool) r (e ▸ hl) (e ▸ hp)
    · exact el
  rw [State.eligible_of_platen hp, (s.changeMode_platens p m).1] at eligible
  exact (permitted_iff m _).mp eligible

theorem State.changeMode_demotion_counts (pool : s.PoolWellKept) (closes : List RecIx) (once : closes.Nodup)
    (mem : ∀ r, r ∈ closes ↔ (s.setMode p m).Closes p r) :
    (s.changeMode p m).2 = (closes.length, (s.demoted p allHeads).length) := by
  have counts := (s.setMode p m).tellDemotion_counts p (s.setMode_pool p m pool) closes once mem
  rw [s.changeMode_demotion p m hm, counts]
  rfl

end demotion

/-! ### A promotion with its round -/

section promotion

variable (s : State) (p : PlatenIx) (m : Mode) (hm : s.platens[p.val].mode.code < m.code)
include hm

theorem State.changeMode_promotion_head (h : HeadIx)
    (hn : ∀ t, ¬ (s.heads[h.val].state = .armed ∧ s.heads[h.val].indexMark = false ∧ s.heads[h.val].snapshot = []
      ∧ s.heads[h.val].step = some t ∧ t.platen = p)) : (s.changeMode p m).1.heads[h.val] = s.heads[h.val] := by
  rw [s.changeMode_promotion p m (Nat.lt_asymm hm), (State.round_keeps _ p _).sameHeads]
  exact (s.setMode p m).tellPromotion_head p h hn

theorem State.changeMode_promotion_leaves (hpol : m = .polishing) (pool : s.PoolWellKept) (h : HeadIx) (t : Step)
    (hs : s.heads[h.val].step = some t) (hp : t.platen = p) (armed : s.heads[h.val].state = .armed)
    (mark : s.heads[h.val].indexMark = false) (snapshot : s.heads[h.val].snapshot = []) :
    s.LeavesArmed (s.changeMode p m).1 h t := by
  subst hp
  have moded := s.setMode_pool t.platen m pool
  have told := (s.setMode t.platen m).tellPromotion_leaves t.platen ((s.setMode_mode t.platen m).trans hpol) moded h t hs rfl armed mark
    snapshot
  have checks : ∀ l, (s.setMode t.platen m).lineChecks l t.platen t.rate = s.lineChecks l t.platen t.rate := fun l => by
    have config : (s.setMode t.platen m).platens[t.platen.val].config = s.platens[t.platen.val].config := by simp [State.setMode]
    unfold State.lineChecks
    rw [config]
    rfl
  have gone := told.of_same (a := s) rfl rfl checks
  have rounded := gone.trans_passesBy (State.round_passesBy h _ t.platen fun _ _ => true)
    (((s.setMode t.platen m).tellPromotion_tells t.platen).pool moded)
  rw [s.changeMode_promotion t.platen m (Nat.lt_asymm hm)]
  dsimp only
  exact rounded

theorem State.changeMode_promotion_counts : (s.changeMode p m).2 = (0, 0) := by
  rw [s.changeMode_promotion p m (Nat.lt_asymm hm)]

end promotion

end Sys2Proof.Machine
end

section
/-! PLATEN-MODE and PLATEN-CONFIG as requests (R50, R57). -/

namespace Sys2Proof.Machine

/-! ### PLATEN-MODE -/

theorem modeOf_code (m : Mode) : modeOf m.code = some m := by cases m <;> rfl

theorem modeOf_none {n : Nat} (h : 4 < n) : modeOf n = none := by
  obtain ⟨k, rfl⟩ := Nat.exists_eq_add_of_le' (Nat.succ_le_of_lt h)
  rfl

theorem Mode.code_le (m : Mode) : m.code ≤ 4 := by cases m <;> decide

theorem parseTwo_pair (a b : Byte) : parseTwo [a, b] = some (a.toNat, b.toNat) := rfl

theorem handlePlatenMode_refuses (a b : Byte) (s : State) (h : a.toNat = 0 ∨ 3 < a.toNat ∨ 4 < b.toNat) :
    handlePlatenMode [a, b] s = (.refuse .badValue, s) := by
  unfold handlePlatenMode
  rw [withBody_some _ _ _ _ _ (parseTwo_pair a b)]
  rcases h with h | h | h
  · simp [toPlaten_none (.inl h)]
  · simp [toPlaten_none (.inr h)]
  · simp only [modeOf_none h]
    split
    · next e => cases e
    · rfl

/-- PLATEN-MODE on a platen and a mode: its present mode is only answered, another is entered. -/
theorem handlePlatenMode_accepts (p : PlatenIx) (m : Mode) (s : State) : handlePlatenMode [b1 (p.val + 1), b1 m.code] s =
    if m = s.platens[p.val].mode then (.ok [b1 s.platens[p.val].mode.code, 0, 0], s)
    else (.ok [b1 s.platens[p.val].mode.code, b1 (s.changeMode p m).2.1, b1 (s.changeMode p m).2.2], (s.changeMode p m).1) := by
  have platen : (b1 (p.val + 1)).toNat = p.val + 1 := toNat_b1 (by omega)
  have mode : (b1 m.code).toNat = m.code := toNat_b1 (by have := m.code_le; omega)
  unfold handlePlatenMode
  rw [withBody_some _ _ _ _ _ (parseTwo_pair _ _), platen, mode, toPlaten_succ, modeOf_code]
  rfl

/-- What a reply of a busy transmitter leaves of a state that has held its replies. -/
theorem State.HoldsReplies.placed {s t : State} (h : s.judging.HoldsReplies t) (f : Frame) (hx : s.link.tx.isSome = true) :
    (t.modLink (·.placeReply f)).link.replies = s.link.replies ++ [f] := by
  obtain ⟨-, replies, tx⟩ := h rfl
  have busy : t.link.tx.isSome = true := by
    rw [tx]
    exact hx
  rw [State.modLink_link, Link.placeReply_of_sending _ _ busy, replies]
  rfl

/-! ### PLATEN-CONFIG -/

/-- The ranges that check 1 of R57 asks for. -/
def PlatenConfigBody.Valid (q : PlatenConfigBody) : Prop :=
  50 ≤ q.flowLimit ∧ q.flowLimit ≤ 1200 ∧ q.ceiling ≤ 3 ∧ ∀ i : Fin 8, q.classes[i.val] ≤ 3

theorem PlatenConfigBody.valid_iff (q : PlatenConfigBody) :
    (50 ≤ q.flowLimit && q.flowLimit ≤ 1200 && q.ceiling < 4 && q.classes.toList.all (· < 4)) = true ↔ q.Valid := by
  have classes : q.classes.toList.all (· < 4) = true ↔ ∀ i : Fin 8, q.classes[i.val] ≤ 3 := by
    simp only [List.all_eq_true, Vector.mem_toList_iff, Vector.mem_iff_getElem, decide_eq_true_eq]
    exact ⟨fun h i => Nat.le_of_lt_succ (h _ ⟨i.val, i.isLt, rfl⟩),
      fun h _ ⟨i, hi, e⟩ => e ▸ Nat.lt_succ_of_le (h ⟨i, hi⟩)⟩
  rw [Bool.and_eq_true, classes]
  simp only [Bool.and_eq_true, decide_eq_true_eq, PlatenConfigBody.Valid, and_assoc, Nat.lt_succ_iff]

theorem PlatenConfigBody.config_none {q : PlatenConfigBody} (h : ¬ q.Valid) : q.config = none :=
  if_neg fun c => h (q.valid_iff.mp c)

theorem PlatenConfigBody.config_some {q : PlatenConfigBody} (h : q.Valid) {c : PlatenConfig} (hf : c.flowLimit = q.flowLimit)
    (hc : c.ceiling.val = q.ceiling) (hk : ∀ i : Fin 8, c.classes[i.val].val = q.classes[i.val]) : q.config = some c := by
  have same : (⟨q.flowLimit, Fin.ofNat 4 q.ceiling, Vector.ofFn fun i => Fin.ofNat 4 q.classes[i.val]⟩ : PlatenConfig) = c := by
    obtain ⟨limit, ceiling, classes⟩ := c
    have ceil : Fin.ofNat 4 q.ceiling = ceiling := Fin.ext (by rw [← hc]; exact Nat.mod_eq_of_lt ceiling.isLt)
    have map : (Vector.ofFn fun i : Fin 8 => Fin.ofNat 4 q.classes[i.val]) = classes := Vector.ext fun i hi => by
      have := hk ⟨i, hi⟩
      rw [Vector.getElem_ofFn]
      exact Fin.ext (by rw [← this]; exact Nat.mod_eq_of_lt classes[i].isLt)
    rw [ceil, map, ← hf]
  rw [← same]
  exact if_pos (q.valid_iff.mpr h)

/-- A line holds a queued dose for a platen when one of its four queues does. -/
theorem State.holdsFor_iff (s : State) (l : LineIx) (p : PlatenIx) :
    s.holdsFor l p = true ↔ ∃ j : ClassIx, ∃ x ∈ s.lines[l.val].queues[j.val], s.recs[x.val].platen = some p := by
  have four : ∀ P : ClassIx → Prop, (∃ j, P j) ↔ P 3 ∨ P 2 ∨ P 1 ∨ P 0 := fun P =>
    ⟨fun ⟨j, h⟩ => by fin_cases j <;> simp_all, fun h => by
      rcases h with h | h | h | h <;> exact ⟨_, h⟩⟩
  rw [four]
  simp [State.holdsFor, Line.queued]

/-- The platen in its new configuration. -/
def State.setConfig (s : State) (p : PlatenIx) (c : PlatenConfig) : State := s.modPlaten p fun n => { n with config := c }

/-- PLATEN-CONFIG within range, on platen `p` and the configuration `c` (R57). -/
theorem handlePlatenConfig_accepts (body : List Byte) (q : PlatenConfigBody) (s : State) (p : PlatenIx) (c : PlatenConfig)
    (hq : parsePlatenConfig body = some q) (hp : q.platen = p.val + 1) (hc : q.config = some c) : handlePlatenConfig body s =
      if c.flowLimit < s.platens[p.val].reservation then (.refuse .inUse, s)
      else (.ok (p2 s.platens[p.val].reservation), (s.setConfig p c).round p fun s l => s.holdsFor l p) := by
  unfold handlePlatenConfig
  rw [withBody_some _ _ _ _ _ hq, hp, toPlaten_succ, hc]
  rfl

theorem handlePlatenConfig_refuses (body : List Byte) (q : PlatenConfigBody) (s : State) (hq : parsePlatenConfig body = some q)
    (h : q.platen = 0 ∨ 3 < q.platen ∨ ¬ q.Valid) : handlePlatenConfig body s = (.refuse .badValue, s) := by
  unfold handlePlatenConfig
  rw [withBody_some _ _ _ _ _ hq]
  rcases h with h | h | h
  · simp [toPlaten_none (.inl h)]
  · simp [toPlaten_none (.inr h)]
  · simp only [PlatenConfigBody.config_none h]
    split
    · next e => cases e
    · rfl

/-- A round asks the four lines in turn, from the pointer on. -/
theorem State.round_eq (s : State) (p : PlatenIx) (asked : State → LineIx → Bool) (turn : LineIx → State → State)
    (h : ∀ l t, turn l t = if asked t l = true then t.attempt l else t) :
    let n := s.platens[p.val].nextLine
    s.round p asked = turn (n + 3) (turn (n + 2) (turn (n + 1) (turn n s))) := by
  have same : (fun l s => if asked s l = true then s.attempt l else s) = turn := funext fun l => funext fun t => (h l t).symm
  unfold State.round
  rw [same]
  rfl

/-- Under STOP a round moves no record. -/
theorem State.round_recs_of_stop (s : State) (p : PlatenIx) (asked : State → LineIx → Bool) (h : s.stop = true) :
    (s.round p asked).recs = s.recs := by
  refine (State.round_rel (R := fun s t => s.stop = true → t.stop = true ∧ t.recs = s.recs) (fun _ h => ⟨h, rfl⟩)
    (fun x y h => ?_) (fun s l h => ?_) s p asked h).2
  · obtain ⟨hs, e⟩ := x h
    obtain ⟨hs', e'⟩ := y hs
    exact ⟨hs', e'.trans e⟩
  · refine ⟨(s.attempt_keeps l).stop.trans h, ?_⟩
    rw [s.attempt_of_not_admits l (by simp [State.admits, h])]
    rfl

/-- What PLATEN-CONFIG makes of the part: lines, records and platens, each platen in its mode and every other in its configuration. -/
theorem State.setConfig_round (s : State) (p : PlatenIx) (c : PlatenConfig) (asked : State → LineIx → Bool) :
    let t := (s.setConfig p c).round p asked
    t = { s with recs := t.recs, lines := t.lines, platens := t.platens } ∧ t.platens[p.val].config = c
      ∧ (∀ j : PlatenIx, j ≠ p → t.platens[j.val].config = s.platens[j.val].config)
      ∧ t.platens.map Platen.mode = s.platens.map Platen.mode
      ∧ (s.PoolWellKept → s.OnlyOpens t) ∧ (s.stop = true → t.recs = s.recs) := by
  have keeps := (s.setConfig p c).round_keeps p asked
  refine ⟨keeps.eq, (keeps.platenConfig p).trans (by simp [State.setConfig]), fun j ne => (keeps.platenConfig j).trans ?_, ?_,
    fun pool => ?_, (s.setConfig p c).round_recs_of_stop p asked⟩
  · rw [State.setConfig, State.modPlaten_get_ne _ _ _ _ ne]
  · refine Vector.ext fun i hi => ?_
    rw [Vector.getElem_map, Vector.getElem_map]
    refine (keeps.modes ⟨i, hi⟩).trans ?_
    simp only [State.setConfig, State.modPlaten_platens, Vector.getElem_set]
    split
    · next e => subst e; rfl
    · rfl
  · exact ((s.setConfig p c).round_opensInPlace p asked).opens
      (pool.congr rfl rfl (fun _ => ⟨rfl, rfl⟩) fun _ _ e => pool.owner e)

/-! ### The requests as wholes -/

/-- PLATEN-MODE with another mode, at the open receiver: the change, and the reply with the mode before, the doses closed and the heads
halted (R50). -/
theorem exec_platenMode (s : State) (tag : Byte) (p : PlatenIx) (m : Mode) (ho : s.isOpen = true) (ne : m ≠ s.platens[p.val].mode) :
    exec (.platenMode tag [b1 (p.val + 1), b1 m.code]) s = .next ((s.judging.changeMode p m).1.modLink (·.placeReply
      ⟨0xA0, tag, [0, 0, b1 s.platens[p.val].mode.code, b1 (s.judging.changeMode p m).2.1, b1 (s.judging.changeMode p m).2.2]⟩)) := by
  have handled := (handlePlatenMode_accepts p m s.judging).trans (if_neg ne)
  have arrived := arrive_open 0x20 tag [b1 (p.val + 1), b1 m.code] handlePlatenMode s ho
  have kind : replyKind 0x20 = 0xA0 := by decide
  have body : ∀ xs, (Response.ok xs).body = 0 :: 0 :: xs := fun _ => rfl
  rw [handled, kind] at arrived
  dsimp only at arrived
  rw [body] at arrived
  exact congrArg Host.Outcome.next arrived

/-- A reply to a request under judgement is the reply to the request: the receiver back in HUNTING, nothing held. -/
theorem State.judged_reply (t : State) (kind tag : Byte) (r : Response) :
    (t.modLink fun k => { k with rx := .hunting, held := true }).modLink (·.placeReply ⟨replyKind kind, tag, r.body⟩)
      = t.replied kind tag r := rfl

/-- PLATEN-CONFIG within range and not below the reservation: the configuration, its round, and the reservation before it (R57). -/
theorem exec_platenConfig (s : State) (tag : Byte) (body : List Byte) (q : PlatenConfigBody) (p : PlatenIx) (c : PlatenConfig)
    (ho : s.isOpen = true) (hq : parsePlatenConfig body = some q) (hp : q.platen = p.val + 1) (hc : q.config = some c)
    (hk : s.platens[p.val].reservation ≤ c.flowLimit) : exec (.platenConfig tag body) s =
      .next (((s.setConfig p c).round p fun s l => s.holdsFor l p).replied 0x21 tag (.ok (p2 s.platens[p.val].reservation))) := by
  have handled := (handlePlatenConfig_accepts body q s.judging p c hq hp hc).trans (if_neg (Nat.not_lt.mpr hk))
  have arrived := arrive_open 0x21 tag body handlePlatenConfig s ho
  have moved := (s.setConfig p c).round_modLink p (fun s l => s.holdsFor l p) (fun k => { k with rx := .hunting, held := true })
    fun _ _ => rfl
  have same : s.judging.setConfig p c = (s.setConfig p c).modLink fun k => { k with rx := .hunting, held := true } := rfl
  rw [handled, same, moved] at arrived
  dsimp only at arrived
  rw [State.judged_reply] at arrived
  exact congrArg Host.Outcome.next arrived

/-- The doses that a demotion of platen `p` to `m` closes, as a list. -/
def State.closedBy (s : State) (p : PlatenIx) (m : Mode) : List RecIx :=
  (List.finRange 64).filter fun r : RecIx =>
    s.recs[r.val].state.live && s.recs[r.val].platen == some p && !(2 ≤ m.code || (m.code == 1 && s.recs[r.val].service))
      && !(s.demoted p (List.finRange 4)).any fun h => s.heads[h.val].dose == some r

theorem State.mem_closedBy (s : State) (p : PlatenIx) (m : Mode) (r : RecIx) :
    r ∈ s.closedBy p m ↔ (s.judging.setMode p m).Closes p r := by
  have mode := s.judging.setMode_mode p m
  have demoted : ∀ h : HeadIx, h ∈ s.demoted p (List.finRange 4) ↔ s.heads[h.val].demotedWith p = true := fun h => s.mem_demoted p
  unfold State.Closes
  rw [mode, permitted_eq]
  simp only [State.closedBy, List.mem_filter, List.mem_finRange, true_and, Bool.and_eq_true, Bool.not_eq_true', beq_iff_eq,
    List.any_eq_false, demoted, and_assoc]
  exact Iff.rfl

/-- The link reads nothing of what a head that leaves ARMED goes to. -/
theorem State.LeavesArmed.modLink {h : HeadIx} {a c : State} {k : Step} (y : a.LeavesArmed c h k) (f : Link → Link) :
    a.LeavesArmed (c.modLink f) h k := by
  obtain ⟨presses, works⟩ := y
  refine ⟨fun hl hw => ?_, works⟩
  obtain ⟨state, clock, dose, zones⟩ := presses hl hw
  exact ⟨state, clock, dose, zones⟩

theorem State.judging_pool {s : State} (pool : s.PoolWellKept) : s.judging.PoolWellKept :=
  pool.congr rfl rfl (fun _ => ⟨rfl, rfl⟩) fun _ _ e => pool.owner e

/-- A promotion short of POLISHING is the new mode and one attempt of every line, from the pointer on. -/
theorem State.changeMode_attempts (s : State) (p : PlatenIx) (m : Mode) (hm : ¬ m.code < s.platens[p.val].mode.code)
    (ne : m ≠ .polishing) (n : LineIx) (hn : (s.setMode p m).platens[p.val].nextLine = n) : s.judging.changeMode p m =
    ((((((s.setMode p m).attempt n).attempt (n + 1)).attempt (n + 2)).attempt (n + 3)).modLink
      fun k => { k with rx := .hunting, held := true }, 0, 0) := by
  have mode := s.judging.setMode_mode p m
  have turns := (s.setMode p m).round_eq p (fun _ _ => true) (fun l t => t.attempt l) fun _ _ => rfl
  rw [hn] at turns
  rw [s.judging.changeMode_promotion p m hm, State.tellPromotion_of_ne _ p (by rw [mode]; exact ne), ← turns,
    ← State.round_modLink _ _ _ _ fun _ _ => rfl]
  rfl

end Sys2Proof.Machine
end

section
/-! Platens: PLATEN-MODE and PLATEN-CONFIG act at once (R50 to R54, R56, R57). -/

namespace Sys2Proof.Machine

/-- Settles O37: the change of a mode is its telling and its round. The halts of a demotion leave exactly the doses to close that no
halted head gave up; the heads of a promotion pass one another by; an attempt exhausts its line, and those that follow leave it so. -/
theorem platenRequestsActAtOnce : Obligations.PlatenRequestsActAtOnce := by
  refine ⟨fun s tag ho => ⟨fun a b bad => ?_, fun p m => ?_⟩, fun s tag body q ho hq => ?_⟩
  · exact congrArg Host.Outcome.next (arrive_answer 0x20 tag _ handlePlatenMode s _ ho (handlePlatenMode_refuses a b _ bad))
  · intro before stops closes waits
    refine ⟨fun same => ?_, fun ne => ?_⟩
    · exact congrArg Host.Outcome.next (arrive_answer 0x20 tag _ handlePlatenMode s _ ho
        ((handlePlatenMode_accepts p m s.judging).trans (if_pos same)))
    -- The changed state is named once all that is known of it has been said, so that no later step looks into the change.
    · have run := exec_platenMode s tag p m ho ne
      have told := s.judging.changeMode_tells p m
      have platens := s.judging.changeMode_platens p m
      have exhausts := s.judging.changeMode_exhausts p m
      have counts := fun hm pool => s.judging.changeMode_demotion_counts p m hm (State.judging_pool pool) (s.closedBy p m)
        (List.Nodup.filter _ (List.nodup_finRange 64)) (s.mem_closedBy p m)
      have halts := s.judging.changeMode_demotion_halts p m
      have spares := s.judging.changeMode_demotion_head p m
      have closed := s.judging.changeMode_demotion_closes p m
      have rests := s.judging.changeMode_demotion_rests p m
      have live := s.judging.changeMode_demotion_live p m
      have promotes := s.judging.changeMode_promotion_counts p m
      have attempts := s.changeMode_attempts p m
      have stays := s.judging.changeMode_promotion_head p m
      have leaves := s.judging.changeMode_promotion_leaves p m
      generalize s.judging.changeMode p m = c at *
      refine ⟨_, run, platens.1, platens.2.1, platens.2.2, fun hs _ l hl hw => exhausts l hs hl hw, fun hm => ?_, fun hm => ?_⟩
      · refine ⟨fun hx pool => ?_, fun h hh => ?_, fun h hh hp => ?_, fun pool r hr => ?_, rests hm,
          fun law r => live hm (State.judging_pool law.1) r⟩
        · rw [told.replies.placed _ hx, counts hm pool]
          rfl
        · exact halts hm h ((s.mem_demoted p).mp hh)
        · exact spares hm h (Bool.eq_false_iff.mpr fun c => hh ((s.mem_demoted p).mpr c)) hp
        · exact closed hm (State.judging_pool pool) r ((s.mem_closedBy p m r).mp hr)
      · refine ⟨fun hx => ?_, fun np => ?_, fun h => ⟨fun hn => ?_, fun t ht hpol pool => ?_⟩⟩
        · rw [told.replies.placed _ hx, promotes hm]
          rfl
        · rw [attempts (Nat.lt_asymm hm) np s.platens[p.val].nextLine (by simp [State.setMode])]
          have keeps := fun (t : State) (l : LineIx) => t.attempt_keeps l
          simp only [State.modLink_heads, State.modLink_conds, State.attempt_heads, (keeps _ _).conds]
          exact ⟨rfl, rfl, State.judged_reply _ 0x20 tag (.ok [b1 before.code, 0, 0])⟩
        · exact stays hm h fun t ⟨armed, mark, snapshot, step, platen⟩ => hn t ⟨armed, mark, snapshot, step, platen⟩
        · obtain ⟨armed, mark, snapshot, step, platen⟩ := ht
          have gone := leaves hm hpol (State.judging_pool pool) h t step platen armed mark snapshot
          exact (gone.of_same (a := s) rfl rfl fun _ => rfl).modLink _
  · intro ok
    refine ⟨fun bad => ?_, fun p c hp good hf hc hk => ?_⟩
    · exact congrArg Host.Outcome.next (arrive_answer 0x21 tag body handlePlatenConfig s _ ho (handlePlatenConfig_refuses body q _ hq bad))
    · intro k
      have config := PlatenConfigBody.config_some good hf hc hk
      refine ⟨fun beyond => ?_, fun within => ?_⟩
      · exact congrArg Host.Outcome.next (arrive_answer 0x21 tag body handlePlatenConfig s _ ho
          ((handlePlatenConfig_accepts body q _ p c hq hp config).trans (if_pos beyond)))
      · intro v asks n t
        have pointer : (s.setConfig p c).platens[p.val].nextLine = n := by simp [State.setConfig, n]
        have round := (s.setConfig p c).round_eq p (fun s l => s.holdsFor l p) asks fun l u => if_congr (u.holdsFor_iff l p).symm rfl rfl
        rw [pointer] at round
        obtain ⟨rest, own, others, modes, opens, still⟩ := s.setConfig_round p c fun s l => s.holdsFor l p
        have run := exec_platenConfig s tag body q p c ho hq hp config within
        rw [round] at run rest own others modes opens still
        exact ⟨run, rest, own, others, modes, opens, still⟩

end Sys2Proof.Machine
end

section
/-! The reservations: each is the sum of its doses' shares, and a dose moves it by its peak (R55, R88, R93, R97). -/

namespace Sys2Proof.Machine

/-- What a record adds to the reservation that `ok` picks its doses for: its peak while it is admitted. -/
def DoseRec.share (d : DoseRec) (ok : DoseRec → Bool) : Nat := if d.state.admitted && ok d then d.peak else 0

theorem State.peakSum_eq (s : State) (ok : DoseRec → Bool) : s.peakSum ok = ∑ r : RecIx, s.recs[r.val].share ok := by
  have picked : ∀ ds : List DoseRec, ((ds.filter fun d => d.state.admitted && ok d).map DoseRec.peak).sum
      = (ds.map fun d => d.share ok).sum := fun ds => by
    induction ds with
    | nil => rfl
    | cons d ds ih =>
      rw [List.filter_cons, List.map_cons, List.sum_cons, ← ih]
      unfold DoseRec.share
      split <;> simp
  have all : s.recs.toList = List.ofFn fun r : RecIx => s.recs[r.val] := by
    exact List.ext_getElem (by rw [Vector.length_toList, List.length_ofFn]) fun i _ _ => by rw [Vector.getElem_toList, List.getElem_ofFn]
  unfold State.peakSum
  rw [picked, all, List.map_ofFn, List.sum_ofFn]
  rfl

/-- Where one record alone changes its share, the sum changes by the difference. -/
theorem State.peakSum_move {s t : State} (ok : DoseRec → Bool) (r : RecIx) (others : ∀ k : RecIx, k ≠ r → t.recs[k.val] = s.recs[k.val]) :
    t.peakSum ok + s.recs[r.val].share ok = s.peakSum ok + t.recs[r.val].share ok := by
  have rest : ∑ k ∈ Finset.univ.erase r, t.recs[k.val].share ok = ∑ k ∈ Finset.univ.erase r, s.recs[k.val].share ok :=
    Finset.sum_congr rfl fun k hk => by rw [others k (Finset.ne_of_mem_erase hk)]
  rw [State.peakSum_eq, State.peakSum_eq, ← Finset.add_sum_erase _ _ (Finset.mem_univ r),
    ← Finset.add_sum_erase _ (fun k : RecIx => s.recs[k.val].share ok) (Finset.mem_univ r), rest]
  omega

/-- What a record claims of line and platen: nothing unless it is admitted, its peak then. -/
structure DoseRec.SameClaim (d e : DoseRec) : Prop where
  admitted : e.state.admitted = d.state.admitted
  order : d.state.admitted = true → e.peak = d.peak ∧ e.line = d.line ∧ e.platen = d.platen

theorem DoseRec.SameClaim.refl (d : DoseRec) : d.SameClaim d := ⟨rfl, fun _ => ⟨rfl, rfl, rfl⟩⟩

/-- A record that claims nothing before and after. -/
theorem DoseRec.SameClaim.of_none {d e : DoseRec} (hd : d.state.admitted = false) (he : e.state.admitted = false) : d.SameClaim e :=
  ⟨he.trans hd.symm, fun h => absurd (hd.symm.trans h) (by decide)⟩

theorem DoseRec.SameClaim.line {d e : DoseRec} (h : d.SameClaim e) (l : LineIx) :
    (e.share fun d => d.line == l) = d.share fun d => d.line == l := by
  unfold DoseRec.share
  rw [h.admitted]
  cases ha : d.state.admitted with
  | false => rfl
  | true =>
    obtain ⟨peak, line, -⟩ := h.order ha
    simp only [peak, line]

theorem DoseRec.SameClaim.platen {d e : DoseRec} (h : d.SameClaim e) (p : PlatenIx) :
    (e.share fun d => d.platen == some p) = d.share fun d => d.platen == some p := by
  unfold DoseRec.share
  rw [h.admitted]
  cases ha : d.state.admitted with
  | false => rfl
  | true =>
    obtain ⟨peak, -, platen⟩ := h.order ha
    simp only [peak, platen]

/-- The budgets rest on the claims, the reservations and their two limits alone; the limits may move above the reservations. -/
theorem State.WithinBudgets.congr {s t : State} (h : s.WithinBudgets) (claims : ∀ r : RecIx, s.recs[r.val].SameClaim t.recs[r.val])
    (lines : ∀ l : LineIx, t.lines[l.val].reservation = s.lines[l.val].reservation
      ∧ (s.lines[l.val].reservation ≤ s.lines[l.val].config.capacity → s.lines[l.val].reservation ≤ t.lines[l.val].config.capacity))
    (platens : ∀ p : PlatenIx, t.platens[p.val].reservation = s.platens[p.val].reservation
      ∧ (s.platens[p.val].reservation ≤ s.platens[p.val].config.flowLimit →
        s.platens[p.val].reservation ≤ t.platens[p.val].config.flowLimit)) : t.WithinBudgets := by
  refine ⟨fun l => ?_, fun p => ?_⟩
  · obtain ⟨sum, within⟩ := h.1 l
    rw [(lines l).1, t.peakSum_eq, Finset.sum_congr rfl fun r _ => (claims r).line l, ← s.peakSum_eq]
    exact ⟨sum, (lines l).2 within⟩
  · obtain ⟨sum, within⟩ := h.2 p
    rw [(platens p).1, t.peakSum_eq, Finset.sum_congr rfl fun r _ => (claims r).platen p, ← s.peakSum_eq]
    exact ⟨sum, (platens p).2 within⟩

section dose

variable {s t : State} {r : RecIx} {l : LineIx} {p : PlatenIx}

/-- The share of an admitted dose is its peak for its own line and its own platen, and 0 for the others. -/
theorem DoseRec.share_line {d : DoseRec} (ha : d.state.admitted = true) (l : LineIx) :
    (d.share fun d => d.line == l) = if l = d.line then d.peak else 0 := by
  simp [DoseRec.share, ha, @eq_comm _ l]

theorem DoseRec.share_platen {d : DoseRec} (ha : d.state.admitted = true) (hp : d.platen = some p) (q : PlatenIx) :
    (d.share fun d => d.platen == some q) = if q = p then d.peak else 0 := by
  simp [DoseRec.share, ha, hp, @eq_comm _ q]

theorem DoseRec.share_of_not {d : DoseRec} (ha : d.state.admitted = false) (ok : DoseRec → Bool) : d.share ok = 0 := by
  simp [DoseRec.share, ha]

/-- An admission adds the peak of a record that claimed nothing to the reservations of its line and its platen, which it fits (R93). -/
theorem State.WithinBudgets.admits (h : s.WithinBudgets) (others : ∀ k : RecIx, k ≠ r → t.recs[k.val] = s.recs[k.val])
    (before : s.recs[r.val].state.admitted = false) (after : t.recs[r.val].state.admitted = true)
    (line : t.recs[r.val].line = l) (platen : t.recs[r.val].platen = some p)
    (lines : ∀ j : LineIx, t.lines[j.val].config = s.lines[j.val].config ∧ t.lines[j.val].reservation
      = s.lines[j.val].reservation + if j = l then t.recs[r.val].peak else 0)
    (platens : ∀ q : PlatenIx, t.platens[q.val].config = s.platens[q.val].config ∧ t.platens[q.val].reservation
      = s.platens[q.val].reservation + if q = p then t.recs[r.val].peak else 0)
    (capacity : s.lines[l.val].reservation + t.recs[r.val].peak ≤ s.lines[l.val].config.capacity)
    (limit : s.platens[p.val].reservation + t.recs[r.val].peak ≤ s.platens[p.val].config.flowLimit) : t.WithinBudgets := by
  refine ⟨fun j => ?_, fun q => ?_⟩
  · have moved := State.peakSum_move (fun d => d.line == j) r others
    rw [DoseRec.share_of_not before, DoseRec.share_line after, line] at moved
    obtain ⟨sum, within⟩ := h.1 j
    rw [(lines j).1, (lines j).2]
    refine ⟨by omega, ?_⟩
    split
    · next e => subst e; exact capacity
    · exact within
  · have moved := State.peakSum_move (fun d => d.platen == some q) r others
    rw [DoseRec.share_of_not before, DoseRec.share_platen after platen] at moved
    obtain ⟨sum, within⟩ := h.2 q
    rw [(platens q).1, (platens q).2]
    refine ⟨by omega, ?_⟩
    split
    · next e => subst e; exact limit
    · exact within

/-- A dose that leaves takes its peak off the reservations of its line and its platen (R97). -/
theorem State.WithinBudgets.leaves (h : s.WithinBudgets) (others : ∀ k : RecIx, k ≠ r → t.recs[k.val] = s.recs[k.val])
    (before : s.recs[r.val].state.admitted = true) (after : t.recs[r.val].state.admitted = false)
    (line : s.recs[r.val].line = l) (platen : s.recs[r.val].platen = some p)
    (lines : ∀ j : LineIx, t.lines[j.val].config = s.lines[j.val].config ∧ t.lines[j.val].reservation
      = s.lines[j.val].reservation - if j = l then s.recs[r.val].peak else 0)
    (platens : ∀ q : PlatenIx, t.platens[q.val].config = s.platens[q.val].config ∧ t.platens[q.val].reservation
      = s.platens[q.val].reservation - if q = p then s.recs[r.val].peak else 0) : t.WithinBudgets := by
  refine ⟨fun j => ?_, fun q => ?_⟩
  · have moved := State.peakSum_move (fun d => d.line == j) r others
    rw [DoseRec.share_of_not after, DoseRec.share_line before, line] at moved
    obtain ⟨sum, within⟩ := h.1 j
    rw [(lines j).1, (lines j).2]
    omega
  · have moved := State.peakSum_move (fun d => d.platen == some q) r others
    rw [DoseRec.share_of_not after, DoseRec.share_platen before platen] at moved
    obtain ⟨sum, within⟩ := h.2 q
    rw [(platens q).1, (platens q).2]
    omega

end dose

end Sys2Proof.Machine
end

section
/-! The doses under the work of the part: what keeps places and budgets, and lets no dose open or flow without its permission. -/

namespace Sys2Proof.Machine

/-! ### What the work of the part keeps of the doses -/

/-- Places and budgets together: what the work of the part keeps even while a dose is still to be closed. -/
def State.DosesFit (s : State) : Prop := s.PoolWellKept ∧ s.WithinBudgets

/-- A dose of record `r` may be OPENING or FLOWING: its line is READY, its platen permits it, STOP is released (R97). -/
def State.Permits (s : State) (r : RecIx) : Prop :=
  s.lines[s.recs[r.val].line.val].state = .ready ∧ s.eligible r = true ∧ s.stop = false

/-- The line, the platen and the service flag of a submission. -/
structure DoseRec.SameOrder (d e : DoseRec) : Prop where
  line : e.line = d.line
  platen : e.platen = d.platen
  service : e.service = d.service

theorem DoseRec.SameOrder.refl (d : DoseRec) : d.SameOrder d := ⟨rfl, rfl, rfl⟩

theorem DoseRec.SameOrder.trans {a b c : DoseRec} (h : a.SameOrder b) (k : b.SameOrder c) : a.SameOrder c :=
  ⟨k.line.trans h.line, k.platen.trans h.platen, k.service.trans h.service⟩

/-- Places and budgets hold on, and a dose is OPENING or FLOWING only where it was, or where it is permitted. -/
structure State.KeepsDoses (s t : State) : Prop where
  power : t.power = s.power
  stop : t.stop = s.stop
  modes : ∀ p : PlatenIx, t.platens[p.val].mode = s.platens[p.val].mode
  ready : ∀ l : LineIx, s.lines[l.val].state = .ready → t.lines[l.val].state = .ready
  fits : s.DosesFit → t.DosesFit
  live : s.DosesFit → ∀ r : RecIx, t.recs[r.val].state.live = true →
    (s.recs[r.val].state.live = true ∧ s.recs[r.val].SameOrder t.recs[r.val]) ∨ t.Permits r

/-- A permission lasts as long as the order of its dose. -/
theorem State.Permits.keeps {s t : State} {r : RecIx} (h : s.Permits r) (k : s.KeepsDoses t) (same : s.recs[r.val].SameOrder t.recs[r.val]) :
    t.Permits r := by
  obtain ⟨ready, eligible, stop⟩ := h
  refine ⟨?_, ?_, k.stop.trans stop⟩
  · simp only [same.line]
    exact k.ready _ ready
  · rw [State.eligible_congr same.platen same.service k.modes]
    exact eligible

theorem State.KeepsDoses.refl (s : State) : s.KeepsDoses s :=
  ⟨rfl, rfl, fun _ => rfl, fun _ => id, id, fun _ _ hl => .inl ⟨hl, .refl _⟩⟩

theorem State.KeepsDoses.trans {a b c : State} (h : a.KeepsDoses b) (k : b.KeepsDoses c) : a.KeepsDoses c where
  power := k.power.trans h.power
  stop := k.stop.trans h.stop
  modes p := (k.modes p).trans (h.modes p)
  ready l x := k.ready l (h.ready l x)
  fits x := k.fits (h.fits x)
  live x r hl := by
    rcases k.live (h.fits x) r hl with ⟨hb, same⟩ | permits
    · exact (h.live x r hb).imp (fun ⟨ha, same'⟩ => ⟨ha, same'.trans same⟩) fun p => p.keeps k same
    · exact .inr permits

/-- The laws of the doses hold after work in which every dose that stays OPENING or FLOWING was permitted before it or is after it. -/
theorem State.KeepsDoses.law {s t : State} (k : s.KeepsDoses t) (run : s.running = true) (fits : s.DosesFit)
    (permits : ∀ r : RecIx, s.recs[r.val].state.live = true → t.recs[r.val].state.live = true →
      s.recs[r.val].SameOrder t.recs[r.val] → s.Permits r ∨ t.Permits r) : t.DoseLaw := by
  obtain ⟨places, budgets⟩ := k.fits fits
  refine ⟨places, budgets, fun r hl => ⟨?_, ?_⟩⟩
  · unfold State.running at run ⊢
    rwa [k.power]
  · rcases k.live fits r hl with ⟨hs, same⟩ | done
    · exact (permits r hs hl same).elim (fun p => p.keeps k same) id
    · exact done

/-- Work of the part that does not touch power, STOP, records, lines and platens, and gives no head a dose. -/
def State.doseParts (s : State) := (s.power, s.stop, s.recs, s.free, s.lines, s.platens)

theorem State.KeepsDoses.of_parts {s t : State} (e : t.doseParts = s.doseParts)
    (hd : ∀ (h : HeadIx) (r : RecIx), t.heads[h.val].dose = some r → s.heads[h.val].dose = some r) : s.KeepsDoses t := by
  simp only [State.doseParts, Prod.mk.injEq] at e
  obtain ⟨power, stop, recs, free, lines, platens⟩ := e
  refine ⟨power, stop, fun p => by rw [platens], fun l h => by rw [lines]; exact h, fun ⟨pool, budgets⟩ => ⟨?_, ?_⟩,
    fun _ r hl => .inl ?_⟩
  · exact pool.congr recs free (fun l => by rw [lines]; exact ⟨rfl, rfl⟩) fun h r x => pool.owner (hd h r x)
  · exact budgets.congr (fun r => by rw [recs]; exact .refl _) (fun l => by rw [lines]; exact ⟨rfl, id⟩)
      fun p => by rw [platens]; exact ⟨rfl, id⟩
  · rw [recs] at hl ⊢
    exact ⟨hl, .refl _⟩

/-! ### What attempts, endings and the telling of the heads leave -/

/-- A busy transmitter is not disturbed, and notices stand behind those that wait. -/
def Link.Grows (k m : Link) : Prop := k.tx.isSome = true → m.tx = k.tx ∧ ∃ more, m.notices = k.notices ++ more

theorem Link.Grows.refl (k : Link) : k.Grows k := fun _ => ⟨rfl, [], (List.append_nil _).symm⟩

theorem Link.Grows.trans {a b c : Link} (h : a.Grows b) (k : b.Grows c) : a.Grows c := fun busy => by
  obtain ⟨tx, more, e⟩ := h busy
  obtain ⟨tx', more', e'⟩ := k (tx ▸ busy)
  exact ⟨tx'.trans tx, more ++ more', by rw [e', e, List.append_assoc]⟩

theorem Link.post_grows (k : Link) (n : Notice) : k.Grows (k.post n) := fun busy => by
  by_cases room : k.notices.length < 32
  · rw [k.post_of_sending n busy room]
    exact ⟨rfl, [n], rfl⟩
  · rw [k.post_of_full n busy (Nat.not_lt.mp room)]
    exact ⟨rfl, [], (List.append_nil _).symm⟩

/-- Records in these states are moved by requests and by the end of CLOSING alone. -/
def DoseState.rests : DoseState → Bool
  | .free | .held | .closing => true
  | _ => false

/-- What a line in TEARDOWN keeps until a dose of it completes (R100, R101). -/
structure Line.SameTeardown (c d : Line) : Prop where
  state : d.state = c.state
  admitted : d.admitted = c.admitted
  tornCount : d.tornCount = c.tornCount
  tornVolume : d.tornVolume = c.tornVolume
  before : d.before = c.before

theorem Line.SameTeardown.refl (c : Line) : c.SameTeardown c := ⟨rfl, rfl, rfl, rfl, rfl⟩

theorem Line.SameTeardown.trans {a b c : Line} (h : a.SameTeardown b) (k : b.SameTeardown c) : a.SameTeardown c :=
  ⟨k.state.trans h.state, k.admitted.trans h.admitted, k.tornCount.trans h.tornCount, k.tornVolume.trans h.tornVolume,
    k.before.trans h.before⟩

/-- Attempts, endings and the telling of the heads: besides what all work keeps, the free list, the lines in service, the records at rest,
a line in TEARDOWN and the notices that wait stay. -/
structure State.Tends (s t : State) : Prop extends s.KeepsDoses t where
  free : t.free = s.free
  serves : s.ServesOn t
  pool : s.PoolWellKept → t.PoolWellKept
  rests : s.PoolWellKept → ∀ r : RecIx, s.recs[r.val].state.rests = true → t.recs[r.val] = s.recs[r.val]
  torn : ∀ l : LineIx, s.lines[l.val].state = .teardown → s.lines[l.val].SameTeardown t.lines[l.val]
  link : s.link.Grows t.link

theorem State.Tends.refl (s : State) : s.Tends s := ⟨.refl s, rfl, .refl s, id, fun _ _ _ => rfl, fun _ _ => .refl _, .refl _⟩

theorem State.Tends.trans {a b c : State} (h : a.Tends b) (k : b.Tends c) : a.Tends c where
  toKeepsDoses := h.toKeepsDoses.trans k.toKeepsDoses
  free := k.free.trans h.free
  serves := h.serves.trans k.serves
  pool x := k.pool (h.pool x)
  rests x r hr := (k.rests (h.pool x) r (by rw [h.rests x r hr]; exact hr)).trans (h.rests x r hr)
  torn l hl := (h.torn l hl).trans (k.torn l ((h.torn l hl).state.trans hl))
  link := h.link.trans k.link

/-- Work that leaves records, lines and platens tends the doses. -/
theorem State.Tends.of_parts {s t : State} (e : t.doseParts = s.doseParts)
    (hd : ∀ (h : HeadIx) (r : RecIx), t.heads[h.val].dose = some r → s.heads[h.val].dose = some r) (link : s.link.Grows t.link) :
    s.Tends t := by
  have keeps := State.KeepsDoses.of_parts e hd
  simp only [State.doseParts, Prod.mk.injEq] at e
  obtain ⟨-, -, recs, free, lines, -⟩ := e
  exact ⟨keeps, free, .of_lines lines,
    fun pool => pool.congr recs free (fun l => by rw [lines]; exact ⟨rfl, rfl⟩) fun h r x => pool.owner (hd h r x),
    fun _ r _ => by rw [recs], fun l _ => by rw [lines]; exact .refl _, link⟩

/-- A change of one line that leaves its places and its reservation, and sets no capacity below it. -/
theorem State.modLine_fits (s : State) (l : LineIx) (f : Line → Line) (queues : (f s.lines[l.val]).queues = s.lines[l.val].queues)
    (admitted : (f s.lines[l.val]).admitted = s.lines[l.val].admitted)
    (reservation : (f s.lines[l.val]).reservation = s.lines[l.val].reservation)
    (capacity : s.lines[l.val].reservation ≤ s.lines[l.val].config.capacity →
      s.lines[l.val].reservation ≤ (f s.lines[l.val]).config.capacity) (h : s.DosesFit) : (s.modLine l f).DosesFit := by
  obtain ⟨pool, budgets⟩ := h
  refine ⟨s.modLine_pool l f ⟨queues, admitted⟩ pool, budgets.congr (fun _ => .refl _) (fun k => ?_) fun _ => ⟨rfl, id⟩⟩
  rw [State.modLine_lines, get_set]
  split
  · next e => subst e; exact ⟨reservation, capacity⟩
  · exact ⟨rfl, id⟩

/-- The same, where a READY line stays READY. -/
theorem State.modLine_keepsDoses (s : State) (l : LineIx) (f : Line → Line)
    (ready : s.lines[l.val].state = .ready → (f s.lines[l.val]).state = .ready)
    (queues : (f s.lines[l.val]).queues = s.lines[l.val].queues) (admitted : (f s.lines[l.val]).admitted = s.lines[l.val].admitted)
    (reservation : (f s.lines[l.val]).reservation = s.lines[l.val].reservation)
    (capacity : s.lines[l.val].reservation ≤ s.lines[l.val].config.capacity →
      s.lines[l.val].reservation ≤ (f s.lines[l.val]).config.capacity) : s.KeepsDoses (s.modLine l f) := by
  refine ⟨rfl, rfl, fun _ => rfl, fun k h => ?_, s.modLine_fits l f queues admitted reservation capacity, fun _ r hl => .inl ⟨hl, .refl _⟩⟩
  rw [State.modLine_lines, get_set]
  split
  · next e => subst e; exact ready h
  · exact h

/-- A change of one line that leaves its service, its places and its budget. -/
theorem State.modLine_tends (s : State) (l : LineIx) (f : Line → Line) (same : s.lines[l.val].SameTeardown (f s.lines[l.val]))
    (queues : (f s.lines[l.val]).queues = s.lines[l.val].queues) (config : (f s.lines[l.val]).config = s.lines[l.val].config)
    (reservation : (f s.lines[l.val]).reservation = s.lines[l.val].reservation) : s.Tends (s.modLine l f) := by
  have serves := s.modLine_servesOn l f same.state
  refine ⟨s.modLine_keepsDoses l f (fun h => same.state.trans h) queues same.admitted reservation (by rw [config]; exact id), rfl, serves,
    s.modLine_pool l f ⟨queues, same.admitted⟩, fun _ _ _ => rfl, fun k _ => ?_, .refl _⟩
  rw [State.modLine_lines, get_set]
  split
  · next e => subst e; exact same
  · exact .refl _

theorem State.settleCheck_tends (s : State) (l : LineIx) : s.Tends (s.settleCheck l) := by
  unfold State.settleCheck
  split
  · exact .refl s
  · exact s.modLine_tends l _ ⟨rfl, rfl, rfl, rfl, rfl⟩ rfl rfl rfl

/-! ### Admissions -/

section admission

variable (s : State) (l : LineIx) (c : ClassIx) (r : RecIx) (p : PlatenIx)

theorem State.admitDose_platens (q : PlatenIx) : (s.admitDose l c r p).platens[q.val].config = s.platens[q.val].config
    ∧ (s.admitDose l c r p).platens[q.val].reservation
      = s.platens[q.val].reservation + if q = p then s.recs[r.val].peak else 0 := by
  simp only [State.admitDose, State.settleCheck_platens, State.modRec_platens, State.modPlaten_platens, State.modLine_platens, get_set]
  split
  · next e => subst e; exact ⟨rfl, rfl⟩
  · exact ⟨rfl, rfl⟩

/-- An admission of a candidate that fits, on a line that admits (R89, R93). -/
theorem State.admitDose_tends (admits : s.admits l = true) (cand : s.candidate l c = some r) (platen : s.recs[r.val].platen = some p)
    (fits : s.fits l p r = true) : s.Tends (s.admitDose l c r p) := by
  obtain ⟨mem, eligible⟩ := State.candidate_some cand
  have keeps := s.admitDose_keeps l c r p
  have serves := s.admitDose_servesOn l c r p
  have took := s.admitDose_admits l c r p eligible
  obtain ⟨x, line⟩ := s.admitDose_line l c r p
  have now : (s.admitDose l c r p).recs[r.val] = { s.recs[r.val] with state := .opening, since := s.now } := by
    rw [State.admitDose_recs_eq, get_set, if_pos rfl]
  have others : ∀ k : RecIx, k ≠ r → (s.admitDose l c r p).recs[k.val] = s.recs[k.val] := fun k ne => by
    rw [State.admitDose_recs_eq, get_set, if_neg ne]
  simp only [State.admits, Bool.and_eq_true, Bool.or_eq_true, beq_iff_eq, Bool.not_eq_true'] at admits
  simp only [State.fits, Bool.and_eq_true, decide_eq_true_eq] at fits
  obtain ⟨service, released⟩ := admits
  have placed : s.PoolWellKept → (s.admitDose l c r p).PoolWellKept := fun pool => pool.relocates (s.admitDose_relocates l c r p pool mem)
  refine ⟨⟨keeps.power, keeps.stop, keeps.modes, fun k h => ?_, fun ⟨pool, budgets⟩ => ⟨placed pool, ?_⟩, fun fit k hl => ?_⟩,
    keeps.free, serves, placed, fun pool k hr => ?_, fun k h => ?_, keeps.link ▸ .refl _⟩
  · rcases serves k with e | ⟨e, -⟩
    · exact e.trans h
    · rw [h] at e; cases e
  · obtain ⟨queued, on, -⟩ := pool.of_queued mem
    refine budgets.admits (r := r) (l := l) (p := p) others ?_ ?_ ?_ ?_ (fun j => ?_) (fun q => ?_) ?_ ?_
    · rw [queued]; rfl
    · rw [now]; rfl
    · rw [now]; exact on
    · rw [now]; exact platen
    · by_cases e : j = l
      · subst e
        simp only [line, now, if_true, and_self]
      · rw [s.admitDose_only l c r p j e, if_neg e]
        exact ⟨rfl, rfl⟩
    · rw [now]
      exact s.admitDose_platens l c r p q
    · rw [now]; exact fits.1
    · rw [now]; exact fits.2
  · by_cases e : k = r
    · subst e
      obtain ⟨-, on, -⟩ := fit.1.of_queued mem
      refine .inr ⟨?_, (took.eligible k).trans eligible, keeps.stop.trans released⟩
      simp only [now, on, line]
      rcases service with e | e <;> simp [e]
    · rw [others k e] at hl ⊢
      exact .inl ⟨hl, .refl _⟩
  · refine others k fun e => ?_
    subst e
    rw [(pool.of_queued mem).1] at hr
    cases hr
  · by_cases e : k = l
    · subst e
      rw [h] at service
      simp at service
    · rw [s.admitDose_only l c r p k e]
      exact .refl _

end admission

/-- The class choice of an attempt moves credits alone. -/
theorem State.choose_tends (s : State) (l : LineIx) : s.Tends (s.choose l).1 := by
  rcases s.choose_state l with e | e <;> rw [e]
  · exact .refl s
  · exact s.modLine_tends l _ ⟨rfl, rfl, rfl, rfl, rfl⟩ rfl rfl rfl

theorem State.admits_congr {s t : State} {l : LineIx} (state : s.lines[l.val].state = .ready ∨ s.lines[l.val].state = .priming →
    t.lines[l.val].state = .ready ∨ t.lines[l.val].state = .priming) (stop : t.stop = s.stop) (h : s.admits l = true) :
    t.admits l = true := by
  simp only [State.admits, Bool.and_eq_true, Bool.or_eq_true, beq_iff_eq, stop] at h ⊢
  exact ⟨state h.1, h.2⟩

/-- A line that admits goes on admitting under work that tends the doses. -/
theorem State.Tends.admits {s t : State} (k : s.Tends t) {l : LineIx} (h : s.admits l = true) : t.admits l = true :=
  State.admits_congr k.serves.inService k.stop h

theorem State.admitMany_tends (l : LineIx) (fuel : Nat) (s : State) (h : s.admits l = true) : s.Tends (State.admitMany l fuel s) := by
  induction fuel generalizing s with
  | zero => exact .refl s
  | succ n ih =>
    have chosen := s.choose_tends l
    have cand := fun c r => State.choose_some (s := s) (l := l) (c := c) (r := r)
    have same : ∀ c, (s.choose l).1.candidate l c = s.candidate l c := fun c => by
      rcases s.choose_state l with e | e <;> rw [e]
      exact s.reloadCredits_candidate l c
    unfold State.admitMany
    split
    · next e => rw [e] at chosen; exact chosen
    · next v c r e =>
      rw [e] at chosen same cand
      split
      · exact chosen
      · next p platen =>
        split
        · next fits =>
          have took := v.admitDose_tends l c r p (chosen.admits h) ((same c).trans (cand c r rfl)) platen fits
          exact (chosen.trans took).trans (ih _ (took.admits (chosen.admits h)))
        · exact chosen.trans (v.modLine_tends l _ ⟨rfl, rfl, rfl, rfl, rfl⟩ rfl rfl rfl)

/-- An attempt opens permitted doses that fit, and moves nothing else but queues, credits and the stopped-at record (R89 to R94). -/
theorem State.attempt_tends (s : State) (l : LineIx) : s.Tends (s.attempt l) := by
  have cleared := s.modLine_tends l (fun n => { n with stoppedAt := none }) ⟨rfl, rfl, rfl, rfl, rfl⟩ rfl rfl rfl
  unfold State.attempt
  dsimp only
  split
  · next h => exact cleared.trans (State.admitMany_tends l _ _ h)
  · exact cleared

theorem State.round_tends (s : State) (p : PlatenIx) (asked : State → LineIx → Bool) : s.Tends (s.round p asked) :=
  State.round_rel .refl .trans State.attempt_tends s p asked

/-! ### Endings, submissions and doses given up -/

theorem State.closingNow_tends (s : State) (r : RecIx) (why : DoseReason) (live : s.recs[r.val].state.live = true) :
    s.Tends (s.closingNow r why) := by
  have others : ∀ k : RecIx, k ≠ r → (s.closingNow r why).recs[k.val] = s.recs[k.val] := fun k ne => s.modRec_get_ne r _ k ne
  have closing : (s.closingNow r why).recs[r.val].state = .closing := by simp [State.closingNow]
  have placed : s.PoolWellKept → (s.closingNow r why).PoolWellKept := fun pool => pool.relocates (s.closingNow_relocates r why pool live)
  refine ⟨⟨rfl, rfl, fun _ => rfl, fun _ => id, fun ⟨pool, budgets⟩ => ⟨placed pool, ?_⟩, fun _ k hl => ?_⟩, rfl, .of_lines rfl, placed,
    fun _ k hr => ?_, fun _ _ => .refl _, .refl _⟩
  · refine budgets.congr (fun k => ?_) (fun _ => ⟨rfl, id⟩) fun _ => ⟨rfl, id⟩
    by_cases e : k = r
    · subst e
      refine ⟨by rw [closing, DoseState.admitted_of_live live]; rfl, fun _ => ?_⟩
      simp [State.closingNow]
    · rw [others k e]
      exact .refl _
  · by_cases e : k = r
    · subst e
      rw [closing] at hl
      cases hl
    · rw [others k e] at hl ⊢
      exact .inl ⟨hl, .refl _⟩
  · refine others k fun e => ?_
    subst e
    cases st : s.recs[k.val].state <;> rw [st] at hr live <;> cases hr <;> cases live

/-- An ending takes an OPENING or FLOWING dose to CLOSING, where it keeps its place and its claim (R97). -/
theorem State.close_tends (s : State) (r : RecIx) (why : DoseReason) : s.Tends (s.close r why) := by
  by_cases live : s.recs[r.val].state.live = true
  · rw [State.close_of_live live]
    exact (s.closingNow_tends r why live).trans (State.settleCheck_tends _ _)
  · rw [State.close_of_not_live live]
    exact .refl s

/-- A closed dose is not OPENING or FLOWING. -/
theorem State.close_not_live (s : State) (r : RecIx) (why : DoseReason) : (s.close r why).recs[r.val].state.live = false := by
  by_cases live : s.recs[r.val].state.live = true
  · rw [s.close_get r why live]
    rfl
  · rw [State.close_of_not_live live]
    exact Bool.eq_false_iff.mpr live

theorem State.forgetDose_tends (s : State) (h : HeadIx) : s.Tends (s.forgetDose h) := by
  refine .of_parts rfl (fun k r e => ?_) (.refl _)
  by_cases ne : k = h
  · subst ne
    simp [State.forgetDose] at e
  · rwa [State.forgetDose, State.modHead_get_ne _ _ _ _ ne] at e

/-- A head gives up a QUEUED dose, one of its own two records: out of its queue, and IDLE (R71). -/
theorem State.withdraw_tends (s : State) (h : HeadIx) (r : RecIx) (hd : s.heads[h.val].dose = some r) (hq : s.recs[r.val].state = .queued) :
    s.Tends ((s.forgetDose h).withdraw r) := by
  have keeps := (s.forgetDose h).withdraw_keeps r
  have serves := (s.forgetDose h).withdraw_servesOn r
  have recs := fun k => (s.forgetDose h).withdraw_rec r k
  have same : ∀ l : LineIx, ((s.forgetDose h).withdraw r).lines[l.val].reservation = s.lines[l.val].reservation
      ∧ s.lines[l.val].SameTeardown ((s.forgetDose h).withdraw r).lines[l.val] := fun l => by
    rw [State.withdraw_line]
    split <;> exact ⟨rfl, rfl, rfl, rfl, rfl, rfl⟩
  have placed : s.PoolWellKept → ((s.forgetDose h).withdraw r).PoolWellKept := fun pool => ((s.forgetDose_tells h).pool pool).relocates
    ((s.forgetDose h).withdraw_relocates r ((s.forgetDose_tells h).pool pool) (ownerOf_lt (pool.owner hd)) hq)
  refine ⟨⟨keeps.power, keeps.stop, keeps.modes, fun l x => (same l).2.state.trans x, fun ⟨pool, budgets⟩ => ⟨placed pool, ?_⟩,
    fun _ k hl => ?_⟩, keeps.free, serves, placed, fun _ k hk => ?_, fun l _ => (same l).2, keeps.link ▸ .refl _⟩
  · refine budgets.congr (fun k => ?_) (fun l => ⟨(same l).1, by rw [keeps.lineConfig l]; exact id⟩) fun p => ⟨rfl, id⟩
    rw [recs]
    split
    · next e => subst e; exact .of_none (by rw [hq]; rfl) rfl
    · exact .refl _
  · rw [recs] at hl ⊢
    split at hl
    · cases hl
    · next ne => rw [if_neg ne]; exact .inl ⟨hl, .refl _⟩
  · rw [recs, if_neg]
    · rfl
    · rintro rfl
      rw [hq] at hk
      cases hk

/-- A head gives up its dose (R71). -/
theorem State.releaseDose_tends (s : State) (h : HeadIx) : s.Tends (s.releaseDose h) := by
  obtain ⟨-, e⟩ | ⟨r, hd, ⟨q, e⟩ | ⟨-, e⟩⟩ := s.releaseDose_cases h <;> rw [e]
  · exact .refl s
  · exact (s.withdraw_tends h r hd q).trans (State.attempt_tends _ _)
  · exact (s.forgetDose_tends h).trans (State.close_tends _ _ _)

/-- A head submits its step's dose on one of its records that is IDLE (R8). -/
theorem State.submits_tends (s : State) (h : HeadIx) (t : Step) (r : RecIx) (l : LineIx) (e : s.idleRecord h = some r) :
    s.Tends (s.submits h t r l) := by
  have tells := s.submits_tells h t r l e
  have idle := (State.idleRecord_some e).1
  have recs := fun k => s.submits_rec h t r k l
  have same : ∀ k : LineIx, (s.submits h t r l).lines[k.val].reservation = s.lines[k.val].reservation
      ∧ s.lines[k.val].SameTeardown (s.submits h t r l).lines[k.val] := fun k => by
    unfold State.submits
    rw [State.enqueue_line]
    split <;> exact ⟨rfl, rfl, rfl, rfl, rfl, rfl⟩
  refine ⟨⟨tells.power, tells.stop, tells.modes, fun k x => (same k).2.state.trans x, fun ⟨pool, budgets⟩ => ⟨tells.pool pool, ?_⟩,
    fun _ k hl => ?_⟩, rfl, tells.serves, tells.pool, fun _ k hk => ?_, fun k _ => (same k).2, .refl _⟩
  · refine budgets.congr (fun k => ?_) (fun k => ⟨(same k).1, by rw [tells.lineConfig k]; exact id⟩) fun p => ⟨rfl, id⟩
    rw [recs]
    split
    · next e => subst e; exact .of_none (by rw [idle]; rfl) rfl
    · exact .refl _
  · rw [recs] at hl ⊢
    split at hl
    · cases hl
    · next ne => rw [if_neg ne]; exact .inl ⟨hl, .refl _⟩
  · rw [recs, if_neg]
    rintro rfl
    rw [idle] at hk
    cases hk

end Sys2Proof.Machine
end

section
/-! The heads' transitions and the telling of the heads tend the doses (R3 to R25, R79). -/

namespace Sys2Proof.Machine

/-! ### Operations that move no dose -/

theorem State.post_tends (s : State) (n : Notice) : s.Tends (s.post n) := .of_parts rfl (fun _ _ => id) (s.link.post_grows n)

/-- A change of one head that gives it no dose. -/
theorem State.modHead_tends (s : State) (h : HeadIx) (f : Head → Head)
    (hd : ∀ r, (f s.heads[h.val]).dose = some r → s.heads[h.val].dose = some r) : s.Tends (s.modHead h f) := by
  refine .of_parts rfl (fun k r e => ?_) (.refl _)
  by_cases ne : k = h
  · subst ne
    rw [State.modHead_get] at e
    exact hd r e
  · rwa [State.modHead_get_ne _ _ _ _ ne] at e

theorem State.modCond_tends (s : State) (p : PlatenIx) (f : Conditioner → Conditioner) : s.Tends (s.modCond p f) :=
  .of_parts rfl (fun _ _ => id) (.refl _)

theorem State.modWatch_tends (s : State) (w : WatchIx) (f : Watch → Watch) : s.Tends (s.modWatch w f) :=
  .of_parts rfl (fun _ _ => id) (.refl _)

theorem State.setModes_tends (s : State) (h : HeadIx) (m : ZoneIx → ZoneMode) : s.Tends (s.setModes h m) :=
  s.modHead_tends h _ fun _ => id

theorem State.startSettle_tends (s : State) (h : HeadIx) (now : Nat) : s.Tends (s.modHead h fun d => d.startSettle now) :=
  s.modHead_tends h _ fun r e => (s.heads[h.val].startSettle_frame now).2.2.1 ▸ e

theorem State.compute_tends (s : State) (h : HeadIx) (now : Nat) : s.Tends (s.modHead h fun d => d.compute now) :=
  s.modHead_tends h _ fun r e => (s.heads[h.val].compute_timers now).2.2 ▸ e

/-- A loop whose every turn tends the doses. -/
theorem forEach_tends {α : Type} (xs : List α) (f : α → State → State) (hf : ∀ x s, State.Tends s (f x s)) (s : State) :
    s.Tends (forEach xs f s) := forEach_rel .refl .trans xs f hf s

theorem State.unbind_tends (s : State) (h : HeadIx) : s.Tends (s.unbind h) := forEach_tends _ _ (fun w s => s.modWatch_tends w _) s

theorem State.dropHolder_tends (s : State) (h : HeadIx) : s.Tends (s.dropHolder h) := forEach_tends _ _ (fun p s => s.modCond_tends p _) s

theorem State.modCar_tends (s : State) (f : Carousel → Carousel) : s.Tends (s.modCar f) := .of_parts rfl (fun _ _ => id) (.refl _)

theorem State.testReady_tends (s : State) : s.Tends s.testReady := by
  unfold State.testReady
  split
  · exact (s.modCar_tends _).trans (forEach_tends _ _ (fun p s => s.modCond_tends p _) _)
  · exact .refl s

theorem State.endStep_tends (s : State) (h : HeadIx) (why : StepReason) : s.Tends (s.endStep h why) := by
  unfold State.endStep
  dsimp only
  split
  · exact .refl s
  · exact ((s.post_tends _).trans (State.unbind_tends _ h)).trans (State.modHead_tends _ h _ fun _ => id)

theorem State.endHeld_tends (s : State) (h : HeadIx) (why : StepReason) : s.Tends (s.endHeld h why) := by
  unfold State.endHeld
  dsimp only
  split
  · exact .refl s
  · exact (s.post_tends _).trans (State.modHead_tends _ h _ fun _ => id)

/-! ### Transitions -/

/-- A halt gives up its head's dose and touches no other but by an attempt (R23). -/
theorem State.haltHead_tends (s : State) (h : HeadIx) (why : HaltReason) (zone : Option ZoneIx) (watch : Option WatchIx) :
    s.Tends (s.haltHead h why zone watch) := by
  unfold State.haltHead
  split
  · exact .refl s
  · have quiet : s.Tends ((s.toStandby h).modHead h fun d => { d.zeroCommands.stopSupervision with updateDue := none }) :=
      (s.setModes_tends h (s.heads[h.val].standby).mode).trans ((s.toStandby h).modHead_tends h _ fun _ => id)
    have given : ∀ t : State, t.Tends ((t.modHead h fun d => { d with state := .halted, haltReason := some why, snapshot := [] }).releaseDose h) :=
      fun t => (t.modHead_tends h _ fun _ => id).trans (State.releaseDose_tends _ h)
    dsimp only
    refine (((State.Tends.trans ?_ (State.unbind_tends _ h)).trans (State.dropHolder_tends _ h)).trans (State.post_tends _ _)).trans
      (State.testReady_tends _)
    refine State.Tends.trans ?_ (given _)
    split
    · exact quiet.trans (State.endHeld_tends _ h _)
    · exact quiet.trans (State.endStep_tends _ h _)

theorem State.enterIdle_tends (s : State) (h : HeadIx) : s.Tends (s.enterIdle h) :=
  (s.modHead_tends h (fun d => { d with state := .idle, snapshot := [] }) fun _ => id).trans (State.testReady_tends _)

theorem State.enterReleasing_tends (s : State) (h : HeadIx) : s.Tends (s.enterReleasing h) := by
  unfold State.enterReleasing
  exact (((s.modHead_tends h _ fun _ => id).trans (State.releaseDose_tends _ h)).trans (State.dropHolder_tends _ h)).trans
    (State.compute_tends _ h _)

theorem State.starveEnd_tends (s : State) (h : HeadIx) : s.Tends (s.starveEnd h) :=
  (s.endHeld_tends h _).trans (State.enterReleasing_tends _ h)

theorem State.enterStarved_tends (s : State) (h : HeadIx) (ended : Step) : s.Tends (s.enterStarved h ended) := by
  have starved : s.Tends (s.modHead h fun d =>
      let d' := if d.supervision = .ramping then d.startSettle s.now else d
      { d' with state := .starved, held := some ended, frozenClock := s.now - d.pressStart, entered := s.now,
                marginLimited := false }) := by
    refine s.modHead_tends h _ fun r e => ?_
    dsimp only at e
    split at e
    · exact (s.heads[h.val].startSettle_frame s.now).2.2.1 ▸ e
    · exact e
  unfold State.enterStarved
  dsimp only
  split
  · exact starved.trans (State.starveEnd_tends _ h)
  · exact starved

theorem State.pressOn_tends (s : State) (h : HeadIx) (t : Step) : s.Tends (s.pressOn h t) := by
  unfold State.pressOn
  dsimp only
  split
  · exact (s.modCond_tends t.platen _).trans (State.compute_tends _ h s.now)
  · exact State.compute_tends s h s.now

theorem State.pressed_tends (s : State) (h : HeadIx) (t : Step) : s.Tends (s.pressed h t) := by
  have begun : ∀ f : Head → Head, (∀ d, (f d).dose = d.dose) → s.Tends ((s.modHead h f).setModes h fun _ => .pressure) := fun f hf =>
    (s.modHead_tends h f fun r e => hf _ ▸ e).trans (State.setModes_tends _ h _)
  unfold State.pressed
  dsimp only
  split
  · refine State.Tends.trans (begun _ ?_) (State.startSettle_tends _ h s.now)
    exact fun _ => rfl
  · refine begun _ ?_
    exact fun _ => rfl

/-- The entry to PRESSING gives up a dose only where its watch refuses to be bound (R11, R121). -/
theorem State.enterPressing_tends (s : State) (h : HeadIx) : s.Tends (s.enterPressing h) := by
  cases e : s.heads[h.val].step with
  | none =>
    unfold State.enterPressing
    rw [e]
    exact .refl s
  | some t =>
    have begun := s.pressed_tends h t
    rw [State.enterPressing_of_step e]
    cases t.watch with
    | none => exact begun.trans (State.pressOn_tends _ h t)
    | some w =>
      dsimp only
      split
      · exact begun.trans (State.haltHead_tends _ h _ _ _)
      · split
        · exact begun.trans (State.haltHead_tends _ h _ _ _)
        · exact (begun.trans (State.modWatch_tends _ w _)).trans (State.pressOn_tends _ h t)

theorem State.enterWetting_tends (s : State) (h : HeadIx) : s.Tends (s.enterWetting h) := by
  have wetted := s.modHead_tends h (fun d => { d with state := .wetting, entered := s.now, snapshot := [] }) fun _ => id
  unfold State.enterWetting
  split
  · exact .refl s
  · dsimp only
    split
    · exact wetted.trans (State.enterPressing_tends _ h)
    · exact wetted

theorem State.makeCurrent_tends (s : State) (h : HeadIx) : s.Tends (s.modHead h Head.makeCurrent) := s.modHead_tends h _ fun _ => id

theorem State.succeed_tends (s : State) (h : HeadIx) (ended : Step) : s.Tends (s.succeed h ended) := by
  unfold State.succeed
  split
  · next next _ =>
    dsimp only
    split
    · refine State.Tends.trans ?_ (State.enterPressing_tends _ h)
      split
      · exact s.makeCurrent_tends h
      · exact (s.makeCurrent_tends h).trans (State.dropHolder_tends _ h)
    · exact (s.makeCurrent_tends h).trans (State.enterReleasing_tends _ h)
  · split
    · exact s.enterStarved_tends h ended
    · exact s.enterReleasing_tends h

theorem State.endAndSucceed_tends (s : State) (h : HeadIx) (why : StepReason) : s.Tends (s.endAndSucceed h why) := by
  unfold State.endAndSucceed
  split
  · exact .refl s
  · exact (s.endStep_tends h why).trans (State.succeed_tends _ h _)

/-! ### Arming and submission -/

theorem State.submitHead_tends (s : State) (h : HeadIx) : s.Tends (s.submitHead h) := by
  obtain e | e | ⟨t, r, l, hr, e⟩ := s.submitHead_cases h <;> rw [e]
  · exact .refl s
  · exact s.haltHead_tends h _ _ _
  · exact (s.submits_tends h t r l hr).trans (State.attempt_tends _ l)

theorem State.awaitsSlurry_tends (s : State) (h : HeadIx) : s.Tends (s.awaitsSlurry h) := s.modHead_tends h _ fun _ e => nomatch e

theorem State.testArmed_tends (s : State) (h : HeadIx) : s.Tends (s.testArmed h) := by
  unfold State.testArmed
  dsimp only
  split
  · exact .refl s
  · split
    · split
      · exact (s.awaitsSlurry_tends h).trans (State.submitHead_tends _ h)
      · exact s.enterWetting_tends h
    · exact .refl s

theorem State.checkStation_tends (s : State) (h : HeadIx) : s.Tends (s.checkStation h) := by
  unfold State.checkStation
  split
  · exact .refl s
  · split
    · exact s.testArmed_tends h
    · exact s.haltHead_tends h _ _ _

theorem State.enterArmed_tends (s : State) (h : HeadIx) : s.Tends (s.enterArmed h) := by
  unfold State.enterArmed
  split
  · exact .refl s
  · next t _ =>
    have armed := s.modHead_tends h (fun d => { d with state := .armed, snapshot := if t.waitDoses then s.barrier t.platen else [] })
      fun _ => id
    dsimp only
    split
    · exact armed.trans (State.testReady_tends _)
    · exact armed.trans (State.checkStation_tends _ h)

theorem State.tellIndexDone_tends (s : State) (h : HeadIx) : s.Tends (s.tellIndexDone h) := by
  unfold State.tellIndexDone
  dsimp only
  split
  · exact (s.modHead_tends h (fun d => { d with indexMark := false }) fun _ => id).trans (State.checkStation_tends _ h)
  · exact .refl s

theorem State.releaseEnd_tends (s : State) (h : HeadIx) : s.Tends (s.releaseEnd h) := by
  have rest : s.Tends ((s.toStandby h).modHead h fun d => { d.zeroCommands with updateDue := none }) :=
    (s.setModes_tends h (s.heads[h.val].standby).mode).trans ((s.toStandby h).modHead_tends h _ fun _ => id)
  unfold State.releaseEnd
  dsimp only
  split
  · exact rest.trans (State.enterArmed_tends _ h)
  · exact rest.trans (State.enterIdle_tends _ h)

/-! ### What the pool tells a head -/

theorem State.tellLoss_tends (s : State) (r : RecIx) : s.Tends (s.tellLoss r) := by
  obtain e | ⟨h, e⟩ := s.tellLoss_cases r <;> rw [e]
  · exact .refl s
  · exact s.haltHead_tends h _ _ _

theorem State.tellFlowing_tends (s : State) (r : RecIx) : s.Tends (s.tellFlowing r) := by
  unfold State.tellFlowing
  split
  · exact .refl s
  · split
    · exact s.enterWetting_tends _
    · exact .refl s

theorem State.tellIdle_tends (s : State) (r : RecIx) : s.Tends (s.tellIdle r) := by
  unfold State.tellIdle
  split
  · exact .refl s
  · split
    · exact s.submitHead_tends _
    · exact .refl s

theorem State.closeAndTell_tends (s : State) (r : RecIx) (why : DoseReason) : s.Tends (s.closeAndTell r why) := by
  unfold State.closeAndTell
  split
  · exact (s.close_tends r why).trans (State.tellLoss_tends _ r)
  · exact .refl s

theorem State.clearSnapshot_tends (s : State) (r : RecIx) (h : HeadIx) : s.Tends (s.clearSnapshot r h) := by
  unfold State.clearSnapshot
  dsimp only
  split
  · exact (s.modHead_tends h (fun d => { d with snapshot := d.snapshot.erase r }) fun _ => id).trans (State.testArmed_tends _ h)
  · exact .refl s

/-- Told endings of a list of doses leave one of them OPENING or FLOWING only where it has opened anew. -/
theorem forEach_closeAndTell_live (rs : List RecIx) (why : DoseReason) (s : State) (fits : s.DosesFit) (r : RecIx) (hr : r ∈ rs)
    (hl : (forEach rs (fun r s => s.closeAndTell r why) s).recs[r.val].state.live = true) :
    (forEach rs (fun r s => s.closeAndTell r why) s).Permits r := by
  induction rs generalizing s with
  | nil => cases hr
  | cons k ks ih =>
    have first := s.closeAndTell_tends k why
    have rest := forEach_tends ks (fun r s => s.closeAndTell r why) (fun r s => s.closeAndTell_tends r why) (s.closeAndTell k why)
    rw [forEach_cons] at hl ⊢
    rcases List.mem_cons.mp hr with rfl | later
    · rcases rest.live (first.fits fits) r hl with ⟨now, same⟩ | permits
      · have opened : (s.closeAndTell r why).Permits r := by
          unfold State.closeAndTell at now ⊢
          split at now
          · next live =>
            rw [if_pos live]
            rcases ((s.close r why).tellLoss_tends r).live ((s.close_tends r why).fits fits) r now with ⟨was, -⟩ | permits
            · rw [s.close_not_live r why] at was
              cases was
            · exact permits
          · next dead => exact absurd now dead
        exact opened.keeps rest.toKeepsDoses same
      · exact permits
    · exact ih _ (first.fits fits) later hl

end Sys2Proof.Machine
end

section
/-! A record that leaves its line and goes home, and one taken from the free list (R65, R68, R72, R73, R97). -/

namespace Sys2Proof.Machine

/-! ### One record moves -/

/-- Record `r` alone has moved, to the place its state names; the free list may have changed by it. -/
structure State.Moves (r : RecIx) (s t : State) : Prop where
  recs : ∀ k : RecIx, k ≠ r → t.recs[k.val] = s.recs[k.val]
  free : ∀ k : RecIx, k ≠ r → (k ∈ t.free ↔ k ∈ s.free)
  queues : ∀ k : RecIx, k ≠ r → ∀ (l : LineIx) (c : ClassIx), k ∈ t.lines[l.val].queues[c.val] ↔ k ∈ s.lines[l.val].queues[c.val]
  admitted : ∀ k : RecIx, k ≠ r → ∀ l : LineIx, k ∈ t.lines[l.val].admitted ↔ k ∈ s.lines[l.val].admitted
  once : t.free.Nodup ∧ ∀ l : LineIx, t.lines[l.val].admitted.Nodup ∧ ∀ c : ClassIx, t.lines[l.val].queues[c.val].Nodup
  heads : t.heads = s.heads
  placed : t.Placed r

theorem State.PoolWellKept.moves {s t : State} {r : RecIx} (h : s.PoolWellKept) (m : State.Moves r s t) : t.PoolWellKept := by
  refine ⟨fun k => ?_, m.once.1, m.once.2, fun x k e => h.owner (m.heads ▸ e)⟩
  by_cases e : k = r
  · exact e ▸ m.placed
  · have hk := h.1 k
    unfold State.Placed at hk ⊢
    rw [m.recs k e, m.free k e]
    simp only [m.queues k e, m.admitted k e]
    exact hk

/-- Record `r` has left queues and admitted sets for its home: a head record is IDLE, another HELD or at the tail of the free list. -/
structure State.ComesHome (r : RecIx) (s t : State) : Prop where
  recs : ∀ k : RecIx, k ≠ r → t.recs[k.val] = s.recs[k.val]
  queues : ∀ (l : LineIx) (c : ClassIx), t.lines[l.val].queues[c.val] = s.lines[l.val].queues[c.val].erase r
  admitted : ∀ l : LineIx, t.lines[l.val].admitted = s.lines[l.val].admitted.erase r
  heads : t.heads = s.heads
  home : (t.recs[r.val].state = .idle ∧ r.val < 8 ∧ t.free = s.free) ∨ (t.recs[r.val].state = .held ∧ 8 ≤ r.val ∧ t.free = s.free)
    ∨ (t.recs[r.val].state = .free ∧ 8 ≤ r.val ∧ t.free = s.free ++ [r])

theorem State.PoolWellKept.comesHome {s t : State} {r : RecIx} (h : s.PoolWellKept) (m : State.ComesHome r s t)
    (was : s.recs[r.val].state ≠ .free) : t.PoolWellKept := by
  have out : r ∉ s.free := fun x => was (h.mem_free.mp x)
  have gone : t.recs[r.val].state.present = false ∧ t.recs[r.val].state.admitted = false ∧ t.recs[r.val].state ≠ .queued := by
    rcases m.home with ⟨e, -⟩ | ⟨e, -⟩ | ⟨e, -⟩ <;> rw [e] <;> exact ⟨rfl, rfl, nofun⟩
  obtain ⟨absent, unadmitted, unqueued⟩ := gone
  refine h.moves ⟨m.recs, fun k ne => ?_, fun k ne l c => ?_, fun k ne l => ?_, ⟨?_, fun l => ?_⟩, m.heads, ?_⟩
  · rcases m.home with ⟨-, -, e⟩ | ⟨-, -, e⟩ | ⟨-, -, e⟩ <;> rw [e]
    simp [ne]
  · rw [m.queues, List.mem_erase_of_ne ne]
  · rw [m.admitted, List.mem_erase_of_ne ne]
  · rcases m.home with ⟨-, -, e⟩ | ⟨-, -, e⟩ | ⟨-, -, e⟩ <;> rw [e]
    · exact h.2.1
    · exact h.2.1
    · exact List.nodup_append.mpr ⟨h.2.1, List.nodup_singleton r, fun a ha b hb ab => out (List.mem_singleton.mp hb ▸ ab ▸ ha)⟩
  · rw [m.admitted]
    exact ⟨(h.2.2.1 l).1.erase r, fun c => by rw [m.queues]; exact ((h.2.2.1 l).2 c).erase r⟩
  · refine ⟨?_, fun e => ?_, fun e => ?_, fun l c => ?_, fun l => ?_, fun e => absurd (absent.symm.trans e) (by decide)⟩
    · rcases m.home with ⟨e, -, f⟩ | ⟨e, -, f⟩ | ⟨e, -, f⟩ <;> rw [e, f] <;> simp [out]
    · rcases m.home with ⟨e', -⟩ | ⟨-, high, -⟩ | ⟨-, high, -⟩
      · rw [e'] at e; simp at e
      · exact high
      · exact high
    · rcases m.home with ⟨-, low, -⟩ | ⟨e', -⟩ | ⟨e', -⟩
      · exact low
      · rw [e'] at e; cases e
      · rw [e'] at e; cases e
    · rw [m.queues, ((h.2.2.1 l).2 c).mem_erase_iff]
      exact ⟨fun x => absurd rfl x.1, fun x => absurd x.1 unqueued⟩
    · rw [m.admitted, (h.2.2.1 l).1.mem_erase_iff]
      exact ⟨fun x => absurd rfl x.1, fun x => absurd (unadmitted.symm.trans x.1) (by decide)⟩

/-- What a record that is neither OPENING nor FLOWING after work does to the live doses, every other record staying: nothing. -/
theorem State.live_of_others {s t : State} {r : RecIx} (recs : ∀ k : RecIx, k ≠ r → t.recs[k.val] = s.recs[k.val])
    (dead : t.recs[r.val].state.live = false) (k : RecIx) (hl : t.recs[k.val].state.live = true) :
    s.recs[k.val].state.live = true ∧ s.recs[k.val].SameOrder t.recs[k.val] := by
  by_cases e : k = r
  · subst e
    exact absurd (dead.symm.trans hl) (by decide)
  · rw [recs k e] at hl ⊢
    exact ⟨hl, .refl _⟩

/-! ### The home of a record -/

/-- The state a completed record takes (R72, R73). -/
def DoseRec.home (d : DoseRec) (r : RecIx) : DoseState := if r.val < 8 then .idle else if d.policy = .hold then .held else .free

/-- A completion, before the heads are told: a head record is IDLE, a record of the tool controller goes where its policy says. -/
def State.settle (s : State) (r : RecIx) : State :=
  if r.val < 8 then s.modRec r fun d => { d with state := .idle, since := s.now } else s.returnRecord r

theorem State.poolDone_eq (s : State) (r : RecIx) :
    s.poolDone r = if r.val < 8 then (s.settle r).tellIdle r else forEach allHeads (fun h s => s.clearSnapshot r h) (s.settle r) := by
  unfold State.poolDone State.settle
  split <;> rfl

/-- A completion's telling of the heads tends the doses. -/
theorem State.poolDone_tends (s : State) (r : RecIx) : (s.settle r).Tends (s.poolDone r) := by
  rw [State.poolDone_eq]
  split
  · exact State.tellIdle_tends _ r
  · exact forEach_tends _ _ (fun h s => s.clearSnapshot_tends r h) _

section settle

variable (s : State) (r : RecIx)

theorem State.settle_cases : s.settle r = s.modRec r (fun d => { d with state := s.recs[r.val].home r, since := s.now })
    ∧ s.recs[r.val].home r ≠ .free
  ∨ ∃ k, s.settle r = { s.modRec r fun d => { d with state := .free, since := s.now } with free := s.free ++ [r], link := k }
    ∧ s.recs[r.val].home r = .free ∧ 8 ≤ r.val
    ∧ k = if s.recs[r.val].policy = .notify then s.link.post (s.doseEndOf r) else s.link := by
  unfold State.settle DoseRec.home State.returnRecord
  by_cases low : r.val < 8
  · exact .inl ⟨by simp only [if_pos low], by simp [low]⟩
  · simp only [if_neg low]
    cases policy : s.recs[r.val].policy with
    | notify => exact .inr ⟨_, rfl, rfl, Nat.not_lt.mp low, rfl⟩
    | silent => exact .inr ⟨_, rfl, rfl, Nat.not_lt.mp low, rfl⟩
    | hold => exact .inl ⟨rfl, by decide⟩

theorem State.settle_rec (k : RecIx) : (s.settle r).recs[k.val]
    = if k = r then { s.recs[r.val] with state := s.recs[r.val].home r, since := s.now } else s.recs[k.val] := by
  rcases s.settle_cases r with ⟨e, -⟩ | ⟨_, e, home, -⟩ <;> rw [e]
  · rw [State.modRec_recs, get_set]
  · rw [home]
    simp only [State.modRec_recs, get_set]

theorem State.settle_free : (s.settle r).free = if s.recs[r.val].home r = .free then s.free ++ [r] else s.free := by
  rcases s.settle_cases r with ⟨e, home⟩ | ⟨_, e, home, -⟩ <;> rw [e]
  · rw [if_neg home]; rfl
  · rw [if_pos home]

theorem State.settle_link : (s.settle r).link
    = if 8 ≤ r.val ∧ s.recs[r.val].policy = .notify then s.link.post (s.doseEndOf r) else s.link := by
  rcases s.settle_cases r with ⟨e, home⟩ | ⟨k, e, -, high, hk⟩ <;> rw [e]
  · rw [if_neg]
    · rfl
    · rintro ⟨high, notify⟩
      exact home (by simp [DoseRec.home, notify, Nat.not_lt.mpr high])
  · rw [hk]
    simp only [high, true_and]

@[simp] theorem State.settle_lines : (s.settle r).lines = s.lines := by
  rcases s.settle_cases r with ⟨e, -⟩ | ⟨_, e, -⟩ <;> rw [e] <;> rfl

@[simp] theorem State.settle_platens : (s.settle r).platens = s.platens := by
  rcases s.settle_cases r with ⟨e, -⟩ | ⟨_, e, -⟩ <;> rw [e] <;> rfl

@[simp] theorem State.settle_heads : (s.settle r).heads = s.heads := by
  rcases s.settle_cases r with ⟨e, -⟩ | ⟨_, e, -⟩ <;> rw [e] <;> rfl

@[simp] theorem State.settle_power : (s.settle r).power = s.power := by
  rcases s.settle_cases r with ⟨e, -⟩ | ⟨_, e, -⟩ <;> rw [e] <;> rfl

@[simp] theorem State.settle_stop : (s.settle r).stop = s.stop := by
  rcases s.settle_cases r with ⟨e, -⟩ | ⟨_, e, -⟩ <;> rw [e] <;> rfl

end settle

/-- The three homes of a record. -/
theorem DoseRec.home_cases (d : DoseRec) (r : RecIx) :
    (d.home r = .idle ∧ r.val < 8) ∨ (d.home r = .held ∧ 8 ≤ r.val) ∨ (d.home r = .free ∧ 8 ≤ r.val) := by
  unfold DoseRec.home
  split
  · next low => exact .inl ⟨rfl, low⟩
  · next high =>
    split
    · exact .inr (.inl ⟨rfl, Nat.not_lt.mp high⟩)
    · exact .inr (.inr ⟨rfl, Nat.not_lt.mp high⟩)

/-- Once off its line, a record that completes comes home. -/
theorem State.settle_comesHome {s v : State} {r : RecIx} (recs : ∀ k : RecIx, k ≠ r → v.recs[k.val] = s.recs[k.val])
    (queues : ∀ (l : LineIx) (c : ClassIx), v.lines[l.val].queues[c.val] = s.lines[l.val].queues[c.val].erase r)
    (admitted : ∀ l : LineIx, v.lines[l.val].admitted = s.lines[l.val].admitted.erase r) (heads : v.heads = s.heads)
    (free : v.free = s.free) : State.ComesHome r s (v.settle r) := by
  refine ⟨fun k ne => ?_, fun l c => ?_, fun l => ?_, ?_, ?_⟩
  · rw [State.settle_rec, if_neg ne, recs k ne]
  · rw [State.settle_lines, queues]
  · rw [State.settle_lines, admitted]
  · rw [State.settle_heads, heads]
  · rw [State.settle_rec, if_pos rfl, State.settle_free, free]
    rcases v.recs[r.val].home_cases r with ⟨e, b⟩ | ⟨e, b⟩ | ⟨e, b⟩ <;> simp [e, b]

theorem DoseRec.home_absent (d : DoseRec) (r : RecIx) : (d.home r).admitted = false ∧ (d.home r).live = false := by
  rcases d.home_cases r with ⟨e, -⟩ | ⟨e, -⟩ | ⟨e, -⟩ <;> rw [e] <;> exact ⟨rfl, rfl⟩

/-! ### A queued record completes -/

theorem State.unqueue_rec (s : State) (r k : RecIx) (why : DoseReason) :
    (s.unqueue r why).recs[k.val] = if k = r then { s.recs[r.val] with reason := some why } else s.recs[k.val] := by
  simp only [State.unqueue, State.modRec_recs, State.modLine_recs, get_set]

theorem State.unqueue_line (s : State) (r : RecIx) (why : DoseReason) (l : LineIx) : (s.unqueue r why).lines[l.val]
    = if l = s.recs[r.val].line then { s.lines[l.val] with
        queues := s.lines[l.val].queues.set s.recs[r.val].cls.val (s.lines[l.val].queues[s.recs[r.val].cls.val].erase r) }
      else s.lines[l.val] := by
  simp only [State.unqueue, State.modRec_lines, State.modLine_lines, get_set]
  split
  · next e => rw [e]
  · rfl

/-- Among records in their places, the queue of a record is the only one that holds it. -/
theorem State.unqueue_queues {s : State} (pool : s.PoolWellKept) (r : RecIx) (why : DoseReason) (l : LineIx) (c : ClassIx) :
    (s.unqueue r why).lines[l.val].queues[c.val] = s.lines[l.val].queues[c.val].erase r := by
  have elsewhere : ¬ (l = s.recs[r.val].line ∧ c = s.recs[r.val].cls) → r ∉ s.lines[l.val].queues[c.val] := fun h m =>
    h ⟨(pool.of_queued m).2.1.symm, (pool.of_queued m).2.2.symm⟩
  rw [State.unqueue_line]
  split
  · next el =>
    dsimp only
    rw [get_set]
    split
    · next ec => rw [ec]
    · next ne => rw [List.erase_of_not_mem (elsewhere fun h => ne h.2)]
  · next ne => rw [List.erase_of_not_mem (elsewhere fun h => ne h.1)]

section unqueue

variable (s : State) (r : RecIx) (why : DoseReason)

theorem State.unqueue_others (k : RecIx) (ne : k ≠ r) : (s.unqueue r why).recs[k.val] = s.recs[k.val] := by
  rw [State.unqueue_rec, if_neg ne]

/-- A QUEUED record is taken out of its queue and completes; so does an IDLE one, which stands in none (R70, R100). -/
theorem State.unqueue_settle_pool (was : s.recs[r.val].state = .queued ∨ s.recs[r.val].state = .idle) (pool : s.PoolWellKept) :
    ((s.unqueue r why).settle r).PoolWellKept := by
  have unadmitted : s.recs[r.val].state.admitted = false := by rcases was with e | e <;> rw [e] <;> rfl
  refine pool.comesHome (State.settle_comesHome (s.unqueue_others r why) (State.unqueue_queues pool r why) (fun l => ?_) rfl rfl) fun e => ?_
  · rw [List.erase_of_not_mem fun m => absurd (unadmitted.symm.trans (pool.mem_admitted.mp m).1) (by decide), State.unqueue_line]
    split <;> rfl
  · rcases was with e' | e' <;> rw [e'] at e <;> cases e

theorem State.unqueue_settle_keepsDoses (was : s.recs[r.val].state = .queued ∨ s.recs[r.val].state = .idle) :
    s.KeepsDoses ((s.unqueue r why).settle r) := by
  have unadmitted : s.recs[r.val].state.admitted = false := by rcases was with e | e <;> rw [e] <;> rfl
  have others : ∀ k : RecIx, k ≠ r → ((s.unqueue r why).settle r).recs[k.val] = s.recs[k.val] := fun k ne => by
    rw [State.settle_rec, if_neg ne, s.unqueue_others r why k ne]
  have home := DoseRec.home_absent (s.unqueue r why).recs[r.val] r
  have lines : ∀ l : LineIx, (s.unqueue r why).lines[l.val].state = s.lines[l.val].state
      ∧ (s.unqueue r why).lines[l.val].reservation = s.lines[l.val].reservation
      ∧ (s.unqueue r why).lines[l.val].config = s.lines[l.val].config := fun l => by
    rw [State.unqueue_line]
    split <;> exact ⟨rfl, rfl, rfl⟩
  refine ⟨by simp [State.unqueue], by simp [State.unqueue], fun p => by simp [State.unqueue], fun l h => ?_,
    fun ⟨pool, budgets⟩ => ⟨s.unqueue_settle_pool r why was pool, ?_⟩, fun _ k hl => .inl (State.live_of_others others ?_ k hl)⟩
  · rw [State.settle_lines, (lines l).1, h]
  · refine budgets.congr (fun k => ?_) (fun l => ?_) fun p => ?_
    · by_cases e : k = r
      · subst e
        refine .of_none unadmitted ?_
        rw [State.settle_rec, if_pos rfl]
        exact home.1
      · rw [others k e]
        exact .refl _
    · rw [State.settle_lines, (lines l).2.1, (lines l).2.2]
      exact ⟨rfl, id⟩
    · rw [State.settle_platens]
      exact ⟨rfl, id⟩
  · rw [State.settle_rec, if_pos rfl]
    exact home.2

end unqueue

/-! ### A record CLOSING completes -/

/-- A record out of its admitted set, its peak off both reservations; a teardown counts a torn-down dose (R97, R101). -/
def State.leaveLine (s : State) (r : RecIx) (p : PlatenIx) : State :=
  let d := s.recs[r.val]
  (s.modLine d.line fun c =>
    let torn := c.state = .teardown ∧ d.reason = some .tornDown
    { c with
      admitted := c.admitted.erase r
      reservation := c.reservation - d.peak
      tornCount := if torn then c.tornCount + 1 else c.tornCount
      tornVolume := if torn then holdAt max32 (c.tornVolume + d.delivered) else c.tornVolume }).modPlaten p fun n =>
    { n with reservation := n.reservation - d.peak }

/-- What the line of a record does once it has completed: it ends its teardown, or makes an attempt (R97, R101). -/
def State.lineGoesOn (s : State) (l : LineIx) : State :=
  if s.lines[l.val].state = .teardown ∧ s.lines[l.val].admitted = [] then s.finishTeardown l else s.attempt l

/-- The end of CLOSING: the record leaves, the pool completes it, its line goes on, its platen makes its round. -/
theorem State.closingEnd_eq {s : State} {r : RecIx} {p : PlatenIx} (e : s.recs[r.val].platen = some p) :
    s.closingEnd r = (((s.leaveLine r p).poolDone r).lineGoesOn s.recs[r.val].line).round p
      fun t k => k != s.recs[r.val].line && t.holdsFor k p := by
  unfold State.closingEnd
  dsimp only
  rw [e]
  rfl

section leave

variable (s : State) (r : RecIx) (p : PlatenIx)

theorem State.leaveLine_line (l : LineIx) : (s.leaveLine r p).lines[l.val]
    = if l = s.recs[r.val].line then { s.lines[l.val] with
        admitted := s.lines[l.val].admitted.erase r
        reservation := s.lines[l.val].reservation - s.recs[r.val].peak
        tornCount := if s.lines[l.val].state = .teardown ∧ s.recs[r.val].reason = some .tornDown then s.lines[l.val].tornCount + 1
          else s.lines[l.val].tornCount
        tornVolume := if s.lines[l.val].state = .teardown ∧ s.recs[r.val].reason = some .tornDown then
          holdAt max32 (s.lines[l.val].tornVolume + s.recs[r.val].delivered) else s.lines[l.val].tornVolume }
      else s.lines[l.val] := by
  simp only [State.leaveLine, State.modPlaten_lines, State.modLine_lines, get_set]
  split
  · next e => subst e; rfl
  · rfl

theorem State.leaveLine_platen (q : PlatenIx) : (s.leaveLine r p).platens[q.val]
    = if q = p then { s.platens[q.val] with reservation := s.platens[q.val].reservation - s.recs[r.val].peak } else s.platens[q.val] := by
  simp only [State.leaveLine, State.modPlaten_platens, State.modLine_platens, get_set]
  split
  · next e => subst e; rfl
  · rfl

/-- A record CLOSING leaves its line and completes (R72, R97). -/
theorem State.leaveLine_settle_pool (closing : s.recs[r.val].state = .closing) (pool : s.PoolWellKept) :
    ((s.leaveLine r p).settle r).PoolWellKept := by
  have off : ∀ l : LineIx, l ≠ s.recs[r.val].line → r ∉ s.lines[l.val].admitted := fun l ne m => ne (pool.mem_admitted.mp m).2.symm
  have unqueued : ∀ (l : LineIx) (c : ClassIx), r ∉ s.lines[l.val].queues[c.val] := fun l c m => by
    have := (pool.of_queued m).1
    rw [closing] at this
    cases this
  refine pool.comesHome (State.settle_comesHome (fun _ _ => rfl) (fun l c => ?_) (fun l => ?_) rfl rfl) (by rw [closing]; nofun)
  · rw [List.erase_of_not_mem (unqueued l c), State.leaveLine_line]
    split <;> rfl
  · rw [State.leaveLine_line]
    split
    · rfl
    · next ne => rw [List.erase_of_not_mem (off l ne)]

theorem State.leaveLine_settle_rec (k : RecIx) : ((s.leaveLine r p).settle r).recs[k.val]
    = if k = r then { s.recs[r.val] with state := s.recs[r.val].home r, since := s.now } else s.recs[k.val] := by
  rw [State.settle_rec]
  rfl

theorem State.leaveLine_settle_keepsDoses (closing : s.recs[r.val].state = .closing) (platen : s.recs[r.val].platen = some p) :
    s.KeepsDoses ((s.leaveLine r p).settle r) := by
  have others : ∀ k : RecIx, k ≠ r → ((s.leaveLine r p).settle r).recs[k.val] = s.recs[k.val] := fun k ne => by
    rw [State.leaveLine_settle_rec, if_neg ne]
  have home := DoseRec.home_absent s.recs[r.val] r
  have now := s.leaveLine_settle_rec r p r
  rw [if_pos rfl] at now
  refine ⟨by simp [State.leaveLine], by simp [State.leaveLine], fun q => ?_, fun l h => ?_,
    fun ⟨pool, budgets⟩ => ⟨s.leaveLine_settle_pool r p closing pool, ?_⟩,
    fun _ k hl => .inl (State.live_of_others others (by rw [now]; exact home.2) k hl)⟩
  · rw [State.settle_platens, State.leaveLine_platen]
    split <;> rfl
  · rw [State.settle_lines, State.leaveLine_line]
    split <;> exact h
  · refine budgets.leaves (r := r) (p := p) others (by rw [closing]; rfl) (by rw [now]; exact home.1) rfl platen (fun j => ?_) fun q => ?_
    · rw [State.settle_lines, State.leaveLine_line]
      split <;> exact ⟨rfl, rfl⟩
    · rw [State.settle_platens, State.leaveLine_platen]
      split <;> exact ⟨rfl, rfl⟩

end leave

/-- The end of a teardown puts a line out of service that holds no dose (R101). -/
theorem State.finishTeardown_keepsDoses (s : State) (l : LineIx) : s.KeepsDoses (s.finishTeardown l) := by
  unfold State.finishTeardown
  dsimp only
  split
  · next h =>
    have offline := s.modLine_keepsDoses l (fun c => { c with state := .offline }) (fun e => absurd (h.1.symm.trans e) (by decide)) rfl rfl rfl id
    exact offline.trans (State.post_tends _ _).toKeepsDoses
  · exact .refl s

theorem State.lineGoesOn_keepsDoses (s : State) (l : LineIx) : s.KeepsDoses (s.lineGoesOn l) := by
  unfold State.lineGoesOn
  split
  · exact s.finishTeardown_keepsDoses l
  · exact (s.attempt_tends l).toKeepsDoses

/-- The end of CLOSING (R97). -/
theorem State.closingEnd_keepsDoses (s : State) (r : RecIx) (p : PlatenIx) (closing : s.recs[r.val].state = .closing)
    (platen : s.recs[r.val].platen = some p) : s.KeepsDoses (s.closingEnd r) := by
  rw [State.closingEnd_eq platen]
  exact (((s.leaveLine_settle_keepsDoses r p closing platen).trans (State.poolDone_tends _ r).toKeepsDoses).trans
    (State.lineGoesOn_keepsDoses _ _)).trans (State.round_tends _ p _).toKeepsDoses

/-- A cancelled dose closes, or completes out of its queue (R70). -/
theorem State.cancel_keepsDoses (s : State) (r : RecIx) : s.KeepsDoses (s.cancel r) := by
  unfold State.cancel
  split
  · next q =>
    exact ((s.unqueue_settle_keepsDoses r _ (.inl q)).trans (State.poolDone_tends _ r).toKeepsDoses).trans
      (State.attempt_tends _ _).toKeepsDoses
  · exact (s.close_tends r _).toKeepsDoses

/-! ### A held record given back, a free record submitted -/

/-- A HELD record joins the tail of the free list (R74). -/
theorem State.giveBack_keepsDoses (s : State) (r : RecIx) (held : s.recs[r.val].state = .held) : s.KeepsDoses (s.giveBack r) := by
  have others : ∀ k : RecIx, k ≠ r → (s.giveBack r).recs[k.val] = s.recs[k.val] := fun k ne =>
    s.modRec_get_ne r (fun d => { d with state := .free, since := s.now }) k ne
  have now : (s.giveBack r).recs[r.val].state = .free := by simp [State.giveBack]
  refine ⟨rfl, rfl, fun _ => rfl, fun _ => id, fun ⟨pool, budgets⟩ => ⟨?_, ?_⟩,
    fun _ k hl => .inl (State.live_of_others others (by rw [now]; rfl) k hl)⟩
  · refine pool.comesHome ⟨others, fun l c => ?_, fun l => ?_, rfl, .inr (.inr ⟨now, ?_, rfl⟩)⟩ (by rw [held]; nofun)
    · refine (List.erase_of_not_mem fun m => ?_).symm
      have := (pool.of_queued m).1
      rw [held] at this
      cases this
    · refine (List.erase_of_not_mem fun m => ?_).symm
      have := (pool.mem_admitted.mp m).1
      rw [held] at this
      cases this
    · exact (pool.1 r).2.1 (.inr held)
  · refine budgets.congr (fun k => ?_) (fun _ => ⟨rfl, id⟩) fun _ => ⟨rfl, id⟩
    by_cases e : k = r
    · subst e
      exact .of_none (by rw [held]; rfl) (by rw [now]; rfl)
    · rw [others k e]
      exact .refl _

/-- A submission of the tool controller takes the record at the head of the free list (R65, R68). -/
def State.submission (s : State) (r : RecIx) (rest : List RecIx) (d : DoseRec) : State := { s with free := rest }.enqueue r d

section submission

variable (s : State) (r : RecIx) (rest : List RecIx) (d : DoseRec)

theorem State.submission_rec (k : RecIx) : (s.submission r rest d).recs[k.val]
    = if k = r then { d with state := .queued, sequence := nextSequence s.counter, since := s.now } else s.recs[k.val] :=
  State.enqueue_rec _ r k d

theorem State.submission_line (l : LineIx) : (s.submission r rest d).lines[l.val] = if l = d.line then { s.lines[l.val] with
    queues := s.lines[l.val].queues.set d.cls.val (s.lines[l.val].queues[d.cls.val] ++ [r]) } else s.lines[l.val] :=
  State.enqueue_line _ r d l

theorem State.submission_others (k : RecIx) (ne : k ≠ r) : (s.submission r rest d).recs[k.val] = s.recs[k.val] := by
  rw [State.submission_rec, if_neg ne]

theorem State.submission_pool (head : s.free = r :: rest) (platen : d.platen.isSome = true) (pool : s.PoolWellKept) :
    (s.submission r rest d).PoolWellKept := by
  have free : s.recs[r.val].state = .free := pool.mem_free.mp (by rw [head]; exact List.mem_cons_self ..)
  have once := pool.2.1
  rw [head, List.nodup_cons] at once
  have unqueued : ∀ (l : LineIx) (c : ClassIx), r ∉ s.lines[l.val].queues[c.val] := fun l c m => by
    have := (pool.of_queued m).1
    rw [free] at this
    cases this
  have out : ∀ l : LineIx, r ∉ s.lines[l.val].admitted := fun l m => by
    have := (pool.mem_admitted.mp m).1
    rw [free] at this
    cases this
  refine pool.moves ⟨s.submission_others r rest d, fun k ne => ?_, fun k ne l c => ?_, fun k ne l => ?_, ⟨once.2, fun l => ?_⟩, rfl, ?_⟩
  · rw [head]
    exact (List.mem_cons.trans (or_iff_right ne)).symm
  · rw [s.submission_line]
    split
    · exact mem_queues_set _ _ c _ k (by simp [ne])
    · exact Iff.rfl
  · rw [s.submission_line]
    split <;> exact Iff.rfl
  · rw [s.submission_line]
    split
    · refine ⟨(pool.2.2.1 l).1, fun c => ?_⟩
      dsimp only
      rw [get_set]
      split
      · refine List.nodup_append.mpr ⟨(pool.2.2.1 l).2 _, List.nodup_singleton r, fun a ha b hb ab => ?_⟩
        rw [List.mem_singleton.mp hb] at ab
        exact unqueued l _ (ab ▸ ha)
      · exact (pool.2.2.1 l).2 c
    · exact pool.2.2.1 l
  · unfold State.Placed
    rw [s.submission_rec, if_pos rfl]
    refine ⟨?_, by simp, by simp, fun l c => ?_, fun l => ?_, fun _ => platen⟩
    · simp only [reduceCtorEq, iff_false]
      exact once.1
    · rw [s.submission_line]
      split
      · next e =>
        subst e
        dsimp only
        rw [get_set]
        split
        · next e' => simp [e']
        · next ne => simp [unqueued, Ne.symm ne]
      · next ne => simp [unqueued, Ne.symm ne]
    · rw [s.submission_line]
      split <;> simpa [DoseState.admitted] using out l

theorem State.submission_keepsDoses (head : s.free = r :: rest) (platen : d.platen.isSome = true) :
    s.KeepsDoses (s.submission r rest d) := by
  refine ⟨rfl, rfl, fun _ => rfl, fun l h => ?_, fun ⟨pool, budgets⟩ => ⟨s.submission_pool r rest d head platen pool, ?_⟩,
    fun _ k hl => .inl (State.live_of_others (s.submission_others r rest d) (by rw [s.submission_rec, if_pos rfl]; rfl) k hl)⟩
  · rw [s.submission_line]
    split <;> exact h
  · have free : s.recs[r.val].state = .free := pool.mem_free.mp (by rw [head]; exact List.mem_cons_self ..)
    refine budgets.congr (fun k => ?_) (fun l => ?_) fun _ => ⟨rfl, id⟩
    · rw [s.submission_rec]
      split
      · next e => subst e; exact .of_none (by rw [free]; rfl) rfl
      · exact .refl _
    · rw [s.submission_line]
      split <;> exact ⟨rfl, id⟩

end submission

/-! ### A dose on its way -/

/-- A change of a dose that is OPENING or FLOWING before and after, its order and its peak staying. -/
theorem State.modRec_keepsDoses (s : State) (r : RecIx) (f : DoseRec → DoseRec) (before : s.recs[r.val].state.live = true)
    (after : (f s.recs[r.val]).state.live = true) (same : s.recs[r.val].SameOrder (f s.recs[r.val]))
    (peak : (f s.recs[r.val]).peak = s.recs[r.val].peak) : s.KeepsDoses (s.modRec r f) := by
  have now : (s.modRec r f).recs[r.val] = f s.recs[r.val] := s.modRec_get r f
  have others : ∀ k : RecIx, k ≠ r → (s.modRec r f).recs[k.val] = s.recs[k.val] := fun k ne => s.modRec_get_ne r f k ne
  have place : ∀ d : DoseState, d.live = true → d.admitted = true ∧ d ≠ .free ∧ d ≠ .held ∧ d ≠ .idle ∧ d ≠ .queued := by
    intro d; cases d <;> decide
  obtain ⟨admitted, unfree, -, -, unqueued⟩ := place _ before
  obtain ⟨admitted', unfree', unheld', unidle', unqueued'⟩ := place _ after
  refine ⟨rfl, rfl, fun _ => rfl, fun _ => id, fun ⟨pool, budgets⟩ => ⟨?_, ?_⟩, fun _ k hl => .inl ?_⟩
  · obtain ⟨free, -, -, queues, ads, platen⟩ := pool.1 r
    refine pool.moves ⟨others, fun _ _ => Iff.rfl, fun _ _ _ _ => Iff.rfl, fun _ _ _ => Iff.rfl, ⟨pool.2.1, pool.2.2.1⟩, rfl, ?_⟩
    unfold State.Placed
    rw [now]
    refine ⟨free.trans ⟨fun e => absurd e unfree, fun e => absurd e unfree'⟩, fun e => absurd e (not_or.mpr ⟨unfree', unheld'⟩),
      fun e => absurd e unidle', fun l c => (queues l c).trans ⟨fun e => absurd e.1 unqueued, fun e => absurd e.1 unqueued'⟩,
      fun l => (ads l).trans ?_, fun _ => ?_⟩
    · rw [admitted, admitted', same.line]
    · rw [same.platen]
      exact platen (DoseState.present_of_live before)
  · refine budgets.congr (fun k => ?_) (fun _ => ⟨rfl, id⟩) fun _ => ⟨rfl, id⟩
    by_cases e : k = r
    · subst e
      rw [now]
      exact ⟨admitted'.trans admitted.symm, fun _ => ⟨peak, same.line, same.platen⟩⟩
    · rw [others k e]
      exact .refl _
  · by_cases e : k = r
    · subst e
      rw [now]
      exact ⟨before, same⟩
    · rw [others k e] at hl ⊢
      exact ⟨hl, .refl _⟩

end Sys2Proof.Machine
end

section
/-! LINE-TEARDOWN: the queued records of a line are removed one by one, whatever the heads that are told make of their own (R100). -/

namespace Sys2Proof.Machine

/-! ### Records that wait for their removal -/

/-- Record `r` waits for its removal from line `l`: it is QUEUED there, or IDLE already, its head HALTED. -/
def State.Waits (s : State) (l : LineIx) (r : RecIx) : Prop :=
  (s.recs[r.val].state = .queued ∧ s.recs[r.val].line = l)
    ∨ (s.recs[r.val].state = .idle ∧ ∃ h : HeadIx, ownerOf r = some h ∧ s.heads[h.val].state = .halted)

/-- The doses are tended, and what waits for its removal from a line in TEARDOWN goes on waiting. -/
structure State.LetsWait (l : LineIx) (s t : State) : Prop extends s.Tends t where
  waits : s.DosesFit → s.lines[l.val].state = .teardown → ∀ r : RecIx, s.Waits l r → t.Waits l r

theorem State.LetsWait.refl (l : LineIx) (s : State) : State.LetsWait l s s := ⟨.refl s, fun _ _ _ => id⟩

theorem State.LetsWait.trans {l : LineIx} {a b c : State} (h : State.LetsWait l a b) (k : State.LetsWait l b c) : State.LetsWait l a c :=
  ⟨h.toTends.trans k.toTends, fun fits torn r w => k.waits (h.fits fits) ((h.torn l torn).state.trans torn) r (h.waits fits torn r w)⟩

/-- Where the records stay and halted heads stay halted, what waits goes on waiting. -/
theorem State.Waits.of_same {s t : State} {l : LineIx} {r : RecIx} (w : s.Waits l r) (recs : t.recs = s.recs)
    (halted : ∀ h : HeadIx, s.heads[h.val].state = .halted → t.heads[h.val].state = .halted) : t.Waits l r := by
  unfold State.Waits
  rw [recs]
  exact w.imp id fun ⟨idle, h, own, state⟩ => ⟨idle, h, own, halted h state⟩

/-- No dose of a line in TEARDOWN opens: a record that at most opens stays. -/
theorem State.Tends.not_opened {s t : State} (k : s.Tends t) {l : LineIx} {r : RecIx} (fits : s.DosesFit)
    (torn : s.lines[l.val].state = .teardown) (line : s.recs[r.val].line = l)
    (moved : t.recs[r.val] = s.recs[r.val]
      ∨ (s.recs[r.val].state = .queued ∧ t.recs[r.val] = { s.recs[r.val] with state := .opening, since := s.now })) :
    t.recs[r.val] = s.recs[r.val] := by
  rcases moved with e | ⟨queued, e⟩
  · exact e
  · exfalso
    rcases k.live fits r (by rw [e]; rfl) with ⟨live, -⟩ | ⟨ready, -⟩
    · rw [queued] at live
      cases live
    · have still := (k.torn l torn).state.trans torn
      simp only [e, line] at ready
      rw [ready] at still
      cases still

theorem State.attempt_letsWait (s : State) (l k : LineIx) : State.LetsWait l s (s.attempt k) := by
  have tends := s.attempt_tends k
  refine ⟨tends, fun fits torn r w => ?_⟩
  have moved := (s.attempt_opensInPlace k).opens fits.1 r
  have heads : (s.attempt k).heads = s.heads := s.attempt_heads k
  unfold State.Waits
  rw [heads]
  rcases w with ⟨queued, line⟩ | ⟨idle, halted⟩
  · rw [tends.not_opened fits torn line moved]
    exact .inl ⟨queued, line⟩
  · rcases moved with e | ⟨queued, -⟩
    · rw [e]
      exact .inr ⟨idle, halted⟩
    · rw [idle] at queued
      cases queued

/-- A QUEUED dose of a head that halts is given up: the record is IDLE (R23, R71). -/
theorem State.haltHead_withdraws (s : State) (h : HeadIx) (why : HaltReason) (zone : Option ZoneIx) (watch : Option WatchIx) (r : RecIx)
    (pool : s.PoolWellKept) (ne : s.heads[h.val].state ≠ .halted) (dose : s.heads[h.val].dose = some r)
    (queued : s.recs[r.val].state = .queued) : (s.haltHead h why zone watch).recs[r.val].state = .idle := by
  obtain ⟨v, first, last⟩ := s.haltHead_split h why zone watch ne
  have still : v.recs[r.val].state = .queued := by rw [first.recs]; exact queued
  rw [last.recs]
  obtain ⟨none, -⟩ | ⟨k, own, ⟨-, e⟩ | ⟨unqueued, -⟩⟩ := v.releaseDose_cases h
  · rw [first.dose h, dose] at none
    cases none
  · rw [first.dose h, dose] at own
    cases own
    have idle : ((v.forgetDose h).withdraw r).recs[r.val].state = .idle := by rw [State.withdraw_rec, if_pos rfl]
    have away := (v.forgetDose_tells h).pool (first.pool pool)
    have places := away.relocates ((v.forgetDose h).withdraw_relocates r away (ownerOf_lt (pool.owner dose)) still)
    rw [e]
    rcases (State.attempt_opensInPlace _ v.recs[r.val].line).opens places r with e' | ⟨q, -⟩
    · rw [e']
      exact idle
    · rw [idle] at q
      cases q
  · rw [first.dose h, dose] at own
    cases own
    exact absurd still unqueued

theorem State.haltHead_letsWait (s : State) (l : LineIx) (h : HeadIx) (why : HaltReason) (zone : Option ZoneIx) (watch : Option WatchIx) :
    State.LetsWait l s (s.haltHead h why zone watch) := by
  have tends := s.haltHead_tends h why zone watch
  refine ⟨tends, fun fits torn r w => ?_⟩
  by_cases ne : s.heads[h.val].state = .halted
  · rw [s.haltHead_of_halted h why zone watch ne]
    exact w
  · have others : ∀ k : HeadIx, s.heads[k.val].state = .halted → (s.haltHead h why zone watch).heads[k.val].state = .halted := fun k hk => by
      rw [s.haltHead_only h why zone watch k fun e => ne (e ▸ hk)]
      exact hk
    rcases w with ⟨queued, line⟩ | ⟨idle, k, own, halted⟩
    · by_cases dose : s.heads[h.val].dose = some r
      · exact .inr ⟨s.haltHead_withdraws h why zone watch r fits.1 ne dose queued, h, fits.1.owner dose, s.haltHead_state h why zone watch⟩
      · refine .inl ?_
        rw [tends.not_opened fits torn line (s.haltHead_rec h why zone watch r fits.1 dose)]
        exact ⟨queued, line⟩
    · refine .inr ⟨?_, k, own, others k halted⟩
      have dose : s.heads[h.val].dose ≠ some r := fun e => by
        have own' := fits.1.owner e
        rw [own] at own'
        exact ne (Option.some.inj own' ▸ halted)
      rcases s.haltHead_rec h why zone watch r fits.1 dose with e | ⟨q, -⟩
      · rw [e]
        exact idle
      · rw [idle] at q
        cases q

/-! ### The telling of the heads lets the records wait -/

/-- A submission takes an IDLE record of a head that is not HALTED. -/
theorem State.submitHead_letsWait (s : State) (l : LineIx) (h : HeadIx) (awake : s.heads[h.val].state ≠ .halted) :
    State.LetsWait l s (s.submitHead h) := by
  obtain e | e | ⟨t, r, k, hr, e⟩ := s.submitHead_cases h <;> rw [e]
  · exact .refl l s
  · exact s.haltHead_letsWait l h _ _ _
  · refine State.LetsWait.trans ⟨s.submits_tends h t r k hr, fun _ _ x w => ?_⟩ (State.attempt_letsWait _ l k)
    obtain ⟨idle, own⟩ := State.idleRecord_some hr
    have ne : x ≠ r := by
      rintro rfl
      rcases w with ⟨queued, -⟩ | ⟨-, j, own', halted⟩
      · rw [idle] at queued
        cases queued
      · rw [own] at own'
        exact awake (Option.some.inj own' ▸ halted)
    have states : ∀ j : HeadIx, (s.submits h t r k).heads[j.val].state = s.heads[j.val].state := fun j => by
      show (s.modHead h fun d => { d with dose := some r }).heads[j.val].state = _
      rw [State.modHead_heads, get_set]
      split
      · next e => subst e; rfl
      · rfl
    unfold State.Waits
    rw [State.submits_rec, if_neg ne]
    simp only [states]
    exact w

/-- What moves head `h` alone, which is not HALTED, and no record, lets the records wait. -/
theorem State.Tends.letsWait {s t : State} (k : s.Tends t) (l : LineIx) (h : HeadIx) (awake : s.heads[h.val].state ≠ .halted)
    (only : State.OnlyHead h s t) (recs : t.recs = s.recs) : State.LetsWait l s t :=
  ⟨k, fun _ _ _ w => w.of_same recs fun j hj => by
    rw [only j fun e => awake (e ▸ hj)]
    exact hj⟩

theorem State.pressed_letsWait (s : State) (l : LineIx) (h : HeadIx) (t : Step) (awake : s.heads[h.val].state ≠ .halted) :
    State.LetsWait l s (s.pressed h t) := by
  refine (s.pressed_tends h t).letsWait l h awake ?_ (s.pressed_sparesPool h t).recs
  have begun : ∀ f : Head → Head, State.OnlyHead h s ((s.modHead h f).setModes h fun _ => .pressure) := fun f =>
    (s.modHead_only h f).trans (State.setModes_only _ h _)
  unfold State.pressed
  dsimp only
  split
  · exact (begun _).trans (State.modHead_only _ h _)
  · exact begun _

theorem State.enterPressing_letsWait (s : State) (l : LineIx) (h : HeadIx) (awake : s.heads[h.val].state ≠ .halted) :
    State.LetsWait l s (s.enterPressing h) := by
  cases e : s.heads[h.val].step with
  | none =>
    unfold State.enterPressing
    rw [e]
    exact .refl l s
  | some t =>
    have begun := s.pressed_letsWait l h t awake
    have presses : ∀ u : State, u.heads = (s.pressed h t).heads → State.LetsWait l u (u.pressOn h t) := fun u hu =>
      (u.pressOn_tends h t).letsWait l h (by rw [hu, (s.pressed_head h t).1]; nofun) (u.pressOn_only h t) (u.pressOn_sparesPool h t).recs
    rw [State.enterPressing_of_step e]
    cases t.watch with
    | none => exact begun.trans (presses _ rfl)
    | some w =>
      dsimp only
      split
      · exact begun.trans (State.haltHead_letsWait _ l h _ _ _)
      · split
        · exact begun.trans (State.haltHead_letsWait _ l h _ _ _)
        · refine (begun.trans (c := (s.pressed h t).bind w h) ?_).trans (presses _ rfl)
          exact ⟨State.modWatch_tends _ w _, fun _ _ _ w => w.of_same rfl fun _ => id⟩

theorem State.enterWetting_letsWait (s : State) (l : LineIx) (h : HeadIx) (awake : s.heads[h.val].state ≠ .halted) :
    State.LetsWait l s (s.enterWetting h) := by
  have wetted := (s.modHead_tends h (fun d => { d with state := .wetting, entered := s.now, snapshot := [] }) fun _ => id).letsWait l h awake
    (s.modHead_only h _) rfl
  unfold State.enterWetting
  split
  · exact .refl l s
  · dsimp only
    split
    · exact wetted.trans (State.enterPressing_letsWait _ l h (by simp))
    · exact wetted

theorem State.testArmed_letsWait (s : State) (l : LineIx) (h : HeadIx) : State.LetsWait l s (s.testArmed h) := by
  unfold State.testArmed
  dsimp only
  split
  · exact .refl l s
  · split
    · next ready =>
      have awake : s.heads[h.val].state ≠ .halted := by rw [ready.1]; nofun
      split
      · exact ((s.awaitsSlurry_tends h).letsWait l h awake (s.modHead_only h _) rfl).trans
          (State.submitHead_letsWait _ l h (by simp [State.awaitsSlurry]))
      · exact s.enterWetting_letsWait l h awake
    · exact .refl l s

theorem State.clearSnapshot_letsWait (s : State) (l : LineIx) (r : RecIx) (h : HeadIx) : State.LetsWait l s (s.clearSnapshot r h) := by
  unfold State.clearSnapshot
  dsimp only
  split
  · next armed =>
    exact ((s.modHead_tends h (fun d => { d with snapshot := d.snapshot.erase r }) fun _ => id).letsWait l h (by rw [armed.1]; nofun)
      (s.modHead_only h _) rfl).trans (State.testArmed_letsWait _ l h)
  · exact .refl l s

theorem State.tellIdle_letsWait (s : State) (l : LineIx) (r : RecIx) : State.LetsWait l s (s.tellIdle r) := by
  unfold State.tellIdle
  split
  · exact .refl l s
  · split
    · next waits => exact s.submitHead_letsWait l _ (by rw [waits.2]; nofun)
    · exact .refl l s

theorem State.tellLoss_letsWait (s : State) (l : LineIx) (r : RecIx) : State.LetsWait l s (s.tellLoss r) := by
  obtain e | ⟨h, e⟩ := s.tellLoss_cases r <;> rw [e]
  · exact .refl l s
  · exact s.haltHead_letsWait l h _ _ _

theorem State.poolDone_letsWait (s : State) (l : LineIx) (r : RecIx) : State.LetsWait l (s.settle r) (s.poolDone r) := by
  rw [State.poolDone_eq]
  split
  · exact State.tellIdle_letsWait _ l r
  · exact forEach_rel (.refl l) .trans _ _ (fun h s => s.clearSnapshot_letsWait l r h) _

/-! ### The removals -/

section removal

variable (s : State) (l : LineIx) (r : RecIx)

theorem State.removeTorn_told : State.LetsWait l ((s.unqueue r .tornDown).settle r) (((s.unqueue r .tornDown).poolDone r).tellLoss r) :=
  (State.poolDone_letsWait _ l r).trans (State.tellLoss_letsWait _ l r)

/-- A record that waits for its removal is removed. -/
theorem State.removeTorn_keepsDoses (w : s.Waits l r) : s.KeepsDoses (s.removeTorn l r) :=
  ((s.unqueue_settle_keepsDoses r .tornDown (w.imp And.left And.left)).trans (s.removeTorn_told l r).toKeepsDoses).trans
    (State.modLine_keepsDoses _ l _ id rfl rfl rfl id)

/-- The removal of one record leaves the line in TEARDOWN and lets the others wait. -/
theorem State.removeTorn_waits (fits : s.DosesFit) (torn : s.lines[l.val].state = .teardown) (w : s.Waits l r) :
    (s.removeTorn l r).lines[l.val].state = .teardown ∧ ∀ k : RecIx, k ≠ r → s.Waits l k → (s.removeTorn l r).Waits l k := by
  have settled := s.unqueue_settle_keepsDoses r .tornDown (w.imp And.left And.left)
  have told := s.removeTorn_told l r
  have still : ((s.unqueue r .tornDown).settle r).lines[l.val].state = .teardown := by
    rw [State.settle_lines, State.unqueue_line]
    split <;> exact torn
  refine ⟨?_, fun k ne wk => ?_⟩
  · unfold State.removeTorn
    rw [State.modLine_get]
    exact (told.torn l still).state.trans still
  · have settledWaits : ((s.unqueue r .tornDown).settle r).Waits l k := by
      unfold State.Waits
      rw [State.settle_rec, if_neg ne, State.unqueue_rec, if_neg ne, State.settle_heads]
      exact wk
    exact (told.waits (settled.fits fits) still k settledWaits).of_same rfl fun _ => id

end removal

theorem forEach_removeTorn (l : LineIx) (rs : List RecIx) (once : rs.Nodup) (s : State) (fits : s.DosesFit)
    (torn : s.lines[l.val].state = .teardown) (waits : ∀ r ∈ rs, s.Waits l r) : s.KeepsDoses (forEach rs (fun r s => s.removeTorn l r) s) := by
  induction rs generalizing s with
  | nil => exact .refl s
  | cons r rs ih =>
    obtain ⟨out, once⟩ := List.nodup_cons.mp once
    have removed := s.removeTorn_keepsDoses l r (waits r (List.mem_cons_self ..))
    obtain ⟨still, others⟩ := s.removeTorn_waits l r fits torn (waits r (List.mem_cons_self ..))
    exact removed.trans (ih once _ (removed.fits fits) still fun k hk =>
      others k (fun e => out (e ▸ hk)) (waits k (List.mem_cons_of_mem _ hk)))

/-! ### The whole teardown -/

theorem Line.mem_queued (c : Line) (r : RecIx) : r ∈ c.queued ↔ ∃ j : ClassIx, r ∈ c.queues[j.val] := by
  simp only [Line.queued, List.mem_append]
  refine ⟨fun h => ?_, fun ⟨j, h⟩ => by fin_cases j <;> simp_all⟩
  rcases h with ((h | h) | h) | h
  exacts [⟨3, h⟩, ⟨2, h⟩, ⟨1, h⟩, ⟨0, h⟩]

/-- Among records in their places, no record is queued twice on a line. -/
theorem State.PoolWellKept.queued_nodup {s : State} (pool : s.PoolWellKept) (l : LineIx) : s.lines[l.val].queued.Nodup := by
  have once := (pool.2.2.1 l).2
  have apart : ∀ (i j : ClassIx), i ≠ j → List.Disjoint s.lines[l.val].queues[i.val] s.lines[l.val].queues[j.val] := fun i j ne r hi hj =>
    ne ((pool.of_queued hi).2.2.symm.trans (pool.of_queued hj).2.2)
  unfold Line.queued
  refine List.Nodup.append (List.Nodup.append (List.Nodup.append (once 3) (once 2) (apart 3 2 (by decide))) (once 1) ?_) (once 0) ?_
  · exact List.disjoint_append_left.mpr ⟨apart 3 1 (by decide), apart 2 1 (by decide)⟩
  · exact List.disjoint_append_left.mpr
      ⟨List.disjoint_append_left.mpr ⟨apart 3 0 (by decide), apart 2 0 (by decide)⟩, apart 1 0 (by decide)⟩

/-- Line `l` leaves service and its admitted doses close: the doses live elsewhere were permitted before. -/
theorem State.DoseLaw.of_closed {s u v : State} {l : LineIx} (law : s.DoseLaw) (fits : u.DosesFit) (run : u.running = true)
    (recs : u.recs = s.recs) (platens : u.platens = s.platens) (stop : u.stop = s.stop) (lines : State.OnlyLine l s u) (keeps : u.KeepsDoses v)
    (closed : ∀ r ∈ s.lines[l.val].admitted, v.recs[r.val].state.live = true → v.Permits r) : v.DoseLaw := by
  refine keeps.law run fits fun r live later _ => ?_
  rw [recs] at live
  obtain ⟨-, ready, eligible, released⟩ := law.2.2 r live
  by_cases e : s.recs[r.val].line = l
  · exact .inr (closed r (law.1.mem_admitted.mpr ⟨DoseState.admitted_of_live live, e⟩) later)
  · refine .inl ⟨?_, ?_, stop.trans released⟩
    · simp only [recs]
      rw [lines _ e]
      exact ready
    · exact (State.eligible_congr (by rw [recs]) (by rw [recs]) fun p => by rw [platens]).trans eligible

/-- The line as it enters TEARDOWN (R100). -/
def State.tearing (s : State) (l : LineIx) : State := s.modLine l fun c =>
  { c with state := .teardown, before := c.state, primeDue := none, faultSince := none, tornCount := 0, tornVolume := 0 }

/-- A teardown removes what is queued and closes what is admitted on its line (R100). -/
theorem State.tearDown_law (s : State) (l : LineIx) (run : s.running = true) (law : s.DoseLaw) :
    (s.tearDown l).power = s.power ∧ (s.tearDown l).DoseLaw := by
  have fits : (s.tearing l).DosesFit := s.modLine_fits l _ rfl rfl rfl id ⟨law.1, law.2.1⟩
  have removed := forEach_removeTorn l s.lines[l.val].queued (law.1.queued_nodup l) (s.tearing l) fits (by simp [State.tearing]) fun r hr =>
    have ⟨_, mem⟩ := (Line.mem_queued _ r).mp hr
    .inl ⟨(law.1.of_queued mem).1, (law.1.of_queued mem).2.1⟩
  have closed := forEach_tends s.lines[l.val].admitted (fun r s => s.closeAndTell r .tornDown) (fun r s => s.closeAndTell_tends r .tornDown)
    (forEach s.lines[l.val].queued (fun r s => s.removeTorn l r) (s.tearing l))
  have ended := State.finishTeardown_keepsDoses (forEach s.lines[l.val].admitted (fun r s => s.closeAndTell r .tornDown)
    (forEach s.lines[l.val].queued (fun r s => s.removeTorn l r) (s.tearing l))) l
  have whole := (removed.trans closed.toKeepsDoses).trans ended
  refine ⟨whole.power, law.of_closed fits run rfl rfl rfl (s.modLine_only l _) whole fun r hr later => ?_⟩
  rcases ended.live (closed.fits (removed.fits fits)) r later with ⟨before, same⟩ | permits
  · exact (forEach_closeAndTell_live _ _ _ (removed.fits fits) r hr before).keeps ended same
  · exact permits

end Sys2Proof.Machine
end

section
/-! The laws of the doses under changes of mode, samples and the events of doses and lines (R53, R76, R77, R97, R99, R103). -/

namespace Sys2Proof.Machine

/-! ### The laws through the work of a part that runs -/

/-- Work that keeps the laws of the doses, the part running on. -/
def State.KeepsDoseLaw (s t : State) : Prop := s.running = true → s.DoseLaw → t.running = true ∧ t.DoseLaw

theorem State.KeepsDoseLaw.refl (s : State) : s.KeepsDoseLaw s := fun run law => ⟨run, law⟩

theorem State.KeepsDoseLaw.trans {a b c : State} (h : a.KeepsDoseLaw b) (k : b.KeepsDoseLaw c) : a.KeepsDoseLaw c := fun run law =>
  have ⟨run', law'⟩ := h run law
  k run' law'

theorem State.running_congr {s t : State} (power : t.power = s.power) (run : s.running = true) : t.running = true := by
  unfold State.running at run ⊢
  rwa [power]

theorem State.KeepsDoses.keepsLaw {s t : State} (k : s.KeepsDoses t) : s.KeepsDoseLaw t := fun run law =>
  ⟨State.running_congr k.power run, k.law run ⟨law.1, law.2.1⟩ fun r live _ _ => .inl (law.2.2 r live).2⟩

theorem State.Tends.keepsLaw {s t : State} (k : s.Tends t) : s.KeepsDoseLaw t := k.toKeepsDoses.keepsLaw

theorem State.KeepsDoseLaw.of_parts {s t : State} (e : t.doseParts = s.doseParts)
    (hd : ∀ (h : HeadIx) (r : RecIx), t.heads[h.val].dose = some r → s.heads[h.val].dose = some r) : s.KeepsDoseLaw t :=
  (State.KeepsDoses.of_parts e hd).keepsLaw

theorem forEach_keepsDoseLaw {α : Type} (xs : List α) (f : α → State → State) (hf : ∀ x s, State.KeepsDoseLaw s (f x s)) (s : State) :
    s.KeepsDoseLaw (forEach xs f s) := forEach_rel .refl .trans xs f hf s

theorem State.reach_keepsDoses (s : State) (t : Nat) : s.KeepsDoses (s.reach t) := .of_parts rfl fun _ _ => id

/-- A change of one head that gives it no dose. -/
theorem State.modHead_keepsDoseLaw (s : State) (h : HeadIx) (f : Head → Head)
    (hd : ∀ r, (f s.heads[h.val]).dose = some r → s.heads[h.val].dose = some r) : s.KeepsDoseLaw (s.modHead h f) :=
  (s.modHead_tends h f hd).keepsLaw

/-! ### Modes (R49 to R54) -/

section mode

variable (s : State) (p : PlatenIx) (m : Mode)

theorem State.setMode_fits (h : s.DosesFit) : (s.setMode p m).DosesFit := by
  refine ⟨State.setMode_pool s p m h.1, h.2.congr (fun _ => .refl _) (fun _ => ⟨rfl, id⟩) fun q => ?_⟩
  rw [State.setMode, State.modPlaten_platens, get_set]
  split
  · next e => subst e; exact ⟨rfl, id⟩
  · exact ⟨rfl, id⟩

/-- A change of a mode is nothing to the doses of the other platens. -/
theorem State.setMode_eligible (r : RecIx) (h : s.recs[r.val].platen ≠ some p) : (s.setMode p m).eligible r = s.eligible r := by
  unfold State.eligible
  cases e : s.recs[r.val].platen with
  | none => simp [State.setMode, e]
  | some q =>
    have ne : q ≠ p := fun c => h (c ▸ e)
    simp [State.setMode, e, get_set, ne]

/-- A higher mode permits what a lower one does. -/
theorem permitted_mono {m n : Mode} (h : m.code ≤ n.code) (service : Bool) (hp : permitted m service = true) : permitted n service = true := by
  revert h hp
  cases m <;> cases n <;> cases service <;> decide

theorem State.setMode_promotes (h : ¬ m.code < s.platens[p.val].mode.code) (r : RecIx) (hr : s.eligible r = true) :
    (s.setMode p m).eligible r = true := by
  by_cases e : s.recs[r.val].platen = some p
  · rw [State.eligible_of_platen e] at hr
    rw [State.eligible_of_platen (s := s.setMode p m) e, State.setMode_mode]
    exact permitted_mono (Nat.not_lt.mp h) _ hr
  · rw [s.setMode_eligible p m r e]
    exact hr

theorem State.tellDemotion_tends : s.Tends (s.tellDemotion p).1 := by
  obtain ⟨rs, e, -, -⟩ := s.tellDemotion_eq p
  have emptied : s.Tends (s.emptiesCond p) := by
    unfold State.emptiesCond
    split
    · exact .refl s
    · exact s.modCond_tends p _
  rw [e]
  exact (emptied.trans (forEach_tends _ _ (fun h s => s.haltHead_tends h _ _ _) _)).trans
    (forEach_tends _ _ (fun r s => s.closeAndTell_tends r _) _)

theorem State.tellPromotion_tends : s.Tends (s.tellPromotion p) := by
  unfold State.tellPromotion
  split
  · refine forEach_tends _ _ (fun h s => ?_) s
    split
    · exact s.testArmed_tends h
    · exact .refl s
  · exact .refl s

/-- A demotion closes what the mode no longer permits (R53). -/
theorem State.demotion_doseLaw (run : s.running = true) (law : s.DoseLaw) : ((s.setMode p m).tellDemotion p).1.DoseLaw := by
  obtain ⟨pool, budgets, lives⟩ := law
  have fits := s.setMode_fits p m ⟨pool, budgets⟩
  have told := (s.setMode p m).tellDemotion_tends p
  have still := (s.setMode p m).tellDemotion_live p fits.1
  generalize ((s.setMode p m).tellDemotion p).1 = t at told still ⊢
  refine told.law run fits fun r live later same => ?_
  obtain ⟨-, ready, eligible, released⟩ := lives r live
  by_cases e : s.recs[r.val].platen = some p
  · refine .inr ⟨?_, still r later (same.platen.trans e), told.stop.trans released⟩
    simp only [same.line]
    exact told.ready _ ready
  · exact .inl ⟨ready, (s.setMode_eligible p m r e).trans eligible, released⟩

/-- A promotion permits every dose that was permitted (R49). -/
theorem State.promotion_doseLaw (hm : ¬ m.code < s.platens[p.val].mode.code) (law : s.DoseLaw) : (s.setMode p m).DoseLaw := by
  obtain ⟨pool, budgets, lives⟩ := law
  have fits := s.setMode_fits p m ⟨pool, budgets⟩
  refine ⟨fits.1, fits.2, fun r live => ?_⟩
  obtain ⟨run, ready, eligible, released⟩ := lives r live
  exact ⟨run, ready, s.setMode_promotes p m hm r eligible, released⟩

theorem State.changeMode_keepsDoseLaw : s.KeepsDoseLaw (s.changeMode p m).1 := fun run law => by
  by_cases hm : m.code < s.platens[p.val].mode.code
  · have demoted := s.demotion_doseLaw p m run law
    have power : ((s.setMode p m).tellDemotion p).1.power = s.power := (State.tellDemotion_tends (s.setMode p m) p).power
    have e : (s.changeMode p m).1 = ((s.setMode p m).tellDemotion p).1.round p fun _ _ => true := by rw [s.changeMode_demotion p m hm]
    rw [e]
    generalize ((s.setMode p m).tellDemotion p).1 = t at demoted power ⊢
    exact (t.round_tends p _).keepsLaw (State.running_congr power run) demoted
  · have e : (s.changeMode p m).1 = ((s.setMode p m).tellPromotion p).round p fun _ _ => true := by rw [s.changeMode_promotion p m hm]
    rw [e]
    exact ((State.tellPromotion_tends _ p).trans (State.round_tends _ p _)).keepsLaw run (s.promotion_doseLaw p m hm law)

end mode

/-! ### Watches and samples -/

theorem State.tellEndpoint_tends (s : State) (d : WatchDef) (h : HeadIx) : s.Tends (s.tellEndpoint d h) := by
  unfold State.tellEndpoint
  dsimp only
  split
  · have marked := s.modHead_tends h (fun c => { c with endpoint := some (c.clock s.now) }) fun _ => id
    split
    · exact marked
    · split
      · exact marked
      · split
        · exact marked.trans (State.endAndSucceed_tends _ h _)
        · exact marked.trans (State.modHead_tends _ h _ fun _ => id)
  · exact .refl s

theorem State.act_tends (s : State) (w : WatchIx) (d : WatchDef) (bound : Option HeadIx) (v : Int) : s.Tends (s.act w d bound v) := by
  unfold State.act
  split
  · exact .refl s
  · split
    · exact .refl s
    · split
      · exact s.endAndSucceed_tends _ _
      · exact .refl s
  · exact s.haltHead_tends _ _ _ _
  · split
    · exact .of_parts rfl (fun _ _ => id) (.refl _)
    · exact s.modHead_tends _ _ fun _ => id

theorem State.fire_tends (s : State) (w : WatchIx) (v : Int) : s.Tends (s.fire w v) := by
  unfold State.fire
  dsimp only
  refine State.Tends.trans ?_ (State.act_tends _ _ _ _ _)
  split
  · exact ((s.modWatch_tends w _).trans (State.post_tends _ _)).trans (State.modWatch_tends _ w _)
  · exact (((s.modWatch_tends w _).trans (State.post_tends _ _)).trans (State.modWatch_tends _ w _)).trans (State.tellEndpoint_tends _ _ _)

theorem State.watchSample_tends (s : State) (w : WatchIx) (v : Int) : s.Tends (s.watchSample w v) := by
  unfold State.watchSample
  dsimp only
  split
  · exact (s.modWatch_tends w _).trans (State.fire_tends _ w v)
  · exact s.modWatch_tends w _

theorem State.superviseSample_tends (s : State) (h : HeadIx) (z : ZoneIx) (v : Int) : s.Tends (s.superviseSample h z v) := by
  have timed : ∀ x, s.Tends (s.modHead h fun d => d.modZone z fun c => { c with deviating := x }) := fun _ => s.modHead_tends h _ fun _ => id
  unfold State.superviseSample
  dsimp only
  split
  · split
    · split
      · exact (timed _).trans (State.haltHead_tends _ h _ _ _)
      · exact timed _
    · exact timed _
  · exact .refl s

/-- A line that enters FAULTED closes its doses (R103). -/
theorem State.faultLine_keepsDoseLaw (s : State) (l : LineIx) (v : Int) : s.KeepsDoseLaw (s.faultLine l v) := fun run law => by
  have fits : (s.faulted l).DosesFit := s.modLine_fits l _ rfl rfl rfl id ⟨law.1, law.2.1⟩
  have closed := forEach_tends (s.liveDoses l) (fun r s => s.closeAndTell r .lineFault) (fun r s => s.closeAndTell_tends r .lineFault)
    (s.faulted l)
  have done : (forEach (s.liveDoses l) (fun r s => s.closeAndTell r .lineFault) (s.faulted l)).DoseLaw :=
    law.of_closed fits run rfl rfl rfl (s.modLine_only l _) closed.toKeepsDoses fun r hr later => by
      rcases closed.live fits r later with ⟨live, -⟩ | permits
      · exact forEach_closeAndTell_live _ _ _ fits r (List.mem_filter.mpr ⟨hr, live⟩) later
      · exact permits
  rw [State.faultLine_eq]
  exact (State.post_tends _ _).keepsLaw (State.running_congr closed.power run) done

theorem State.flowSample_keepsDoseLaw (s : State) (l : LineIx) (v : Int) : s.KeepsDoseLaw (s.flowSample l v) := by
  have timed : ∀ x, s.KeepsDoseLaw (s.modLine l fun c => { c with faultSince := x }) := fun _ =>
    (s.modLine_tends l _ ⟨rfl, rfl, rfl, rfl, rfl⟩ rfl rfl rfl).keepsLaw
  unfold State.flowSample
  dsimp only
  split
  · split
    · split
      · exact s.faultLine_keepsDoseLaw l v
      · exact timed _
    · exact timed _
  · exact .refl s

theorem State.useSample_keepsDoseLaw (s : State) (src : Source) (v : Int) (first : Bool) (x : SampleUser) :
    s.KeepsDoseLaw (s.useSample src v first x) := by
  unfold State.useSample
  split
  · split
    · split
      · exact s.modHead_keepsDoseLaw _ _ fun _ => id
      · exact .refl s
    · exact .refl s
  · split
    · exact (s.watchSample_tends _ v).keepsLaw
    · exact .refl s
  · split
    · exact (s.superviseSample_tends _ _ v).keepsLaw
    · exact .refl s
  · split
    · exact s.flowSample_keepsDoseLaw _ v
    · exact .refl s
  · split
    · exact (s.modCond_tends _ _).keepsLaw
    · exact .refl s
  · split
    · exact .of_parts rfl fun _ _ => id
    · exact .refl s

theorem State.sample_keepsDoseLaw (s : State) (src : Source) (raw : Nat) (order : List SampleUser) :
    s.KeepsDoseLaw (s.sample src raw order) := by
  unfold State.sample
  dsimp only
  refine State.KeepsDoseLaw.trans ?_ (forEach_keepsDoseLaw _ _ (fun x s => s.useSample_keepsDoseLaw src _ _ x) _)
  split <;> exact .of_parts rfl fun _ _ => id

/-! ### Doses and lines -/

theorem State.openingEnds_keepsDoses (s : State) (r : RecIx) : s.KeepsDoses (s.openingEnds r) := by
  unfold State.openingEnds
  split
  · next opening =>
    exact ((s.reach_keepsDoses _).trans (State.modRec_keepsDoses _ r _ (by rw [State.reach_recs, opening]; rfl) rfl ⟨rfl, rfl, rfl⟩ rfl)).trans
      (State.tellFlowing_tends _ r).toKeepsDoses
  · exact .refl s

/-- Metering moves counts and volumes alone (R76). -/
theorem State.meter_keepsDoses (s : State) (r : RecIx) (n : Nat) (flowing : s.recs[r.val].state = .flowing) : s.KeepsDoses (s.meter r n) := by
  unfold State.meter
  have live : ∀ t, ((s.reach t).recs[r.val].meter n).state.live = true := fun t => by
    show (s.recs[r.val].state).live = true
    rw [flowing]
    rfl
  exact ((s.reach_keepsDoses _).trans (State.modRec_keepsDoses _ r _ (by rw [State.reach_recs, flowing]; rfl) (live _) ⟨rfl, rfl, rfl⟩ rfl)).trans
    (State.modLine_tends _ _ _ ⟨rfl, rfl, rfl, rfl, rfl⟩ rfl rfl rfl).toKeepsDoses

theorem State.meter_flowing (s : State) (r : RecIx) (n : Nat) : (s.meter r n).recs[r.val].state = s.recs[r.val].state := by
  simp [State.meter, DoseRec.meter]

theorem State.meterTick_keepsDoses (s : State) (r : RecIx) : s.KeepsDoses (s.meterTick r) := by
  unfold State.meterTick
  dsimp only
  split
  · next h => exact s.meter_keepsDoses r 1 h.1
  · exact .refl s

theorem State.nextSegment_keepsDoses (s : State) (r : RecIx) (flowing : s.recs[r.val].state = .flowing) : s.KeepsDoses (s.nextSegment r) := by
  unfold State.nextSegment
  dsimp only
  split
  · exact s.modRec_keepsDoses r _ (by rw [flowing]; rfl) (by simp [flowing, DoseState.live]) ⟨rfl, rfl, rfl⟩ rfl
  · exact (s.close_tends r _).toKeepsDoses

theorem State.segmentEnds_keepsDoses (s : State) (r : RecIx) : s.KeepsDoses (s.segmentEnds r) := by
  unfold State.segmentEnds
  dsimp only
  split
  · next flowing _ =>
    have metered := fun k => s.meter_keepsDoses r k flowing
    have next := fun k => State.nextSegment_keepsDoses (s.meter r k) r ((s.meter_flowing r k).trans flowing)
    split
    · exact (metered _).trans (next _)
    · split
      · exact (metered _).trans (State.close_tends _ r _).toKeepsDoses
      · exact (metered _).trans (next _)
  · exact .refl s

theorem State.capReached_keepsDoses (s : State) (r : RecIx) : s.KeepsDoses (s.capReached r) := by
  unfold State.capReached
  dsimp only
  split
  · next flowing _ =>
    have capped := fun k => (s.meter_keepsDoses r k flowing).trans (State.close_tends _ r .capped).toKeepsDoses
    split
    · exact capped _
    · split
      · exact capped _
      · exact .refl s
  · exact .refl s

theorem State.closingEnds_keepsDoseLaw (s : State) (r : RecIx) : s.KeepsDoseLaw (s.closingEnds r) := fun run law => by
  unfold State.closingEnds
  split
  · next closing =>
    obtain ⟨p, platen⟩ := Option.isSome_iff_exists.mp ((law.1.1 r).2.2.2.2.2 (by rw [closing]; rfl))
    exact ((s.reach_keepsDoses _).trans (State.closingEnd_keepsDoses _ r p closing platen)).keepsLaw run law
  · exact ⟨run, law⟩

theorem State.primeExpires_keepsDoses (s : State) (l : LineIx) : s.KeepsDoses (s.primeExpires l) := by
  unfold State.primeExpires
  split
  · exact ((s.reach_keepsDoses _).trans ((State.modLine_keepsDoses _ l (fun c => { c with state := .ready, primeDue := none })
      (fun _ => rfl) rfl rfl rfl id).trans (State.settleCheck_tends _ l).toKeepsDoses)).trans (State.attempt_tends _ l).toKeepsDoses
  · exact .refl s

end Sys2Proof.Machine
end

section
/-! The laws of the doses under every request (R55, R63, R65, R88, R97). -/

namespace Sys2Proof.Machine

/-- A handler keeps the laws of the doses, whatever BODY it judges. -/
def Handler.KeepsDoseLaw (f : Handler) : Prop := ∀ (body : List Byte) (s : State), s.KeepsDoseLaw (f body s).2

theorem withBody_keepsDoseLaw {α : Type} {parse : List Byte → Option α} {f : α → State → Response × State}
    (hf : ∀ (q : α) (s : State), s.KeepsDoseLaw (f q s).2) : Handler.KeepsDoseLaw (withBody parse f) := fun body s => by
  unfold withBody
  split
  · exact .refl s
  · exact hf _ s

theorem withIx_keepsDoseLaw {k : Nat} {f : Fin k → State → Response × State} (hf : ∀ (i : Fin k) (s : State), s.KeepsDoseLaw (f i s).2)
    (n : Nat) (s : State) : s.KeepsDoseLaw (withIx k f n s).2 := by
  unfold withIx
  split
  · exact .refl s
  · exact hf _ s

theorem withPlaten_keepsDoseLaw {f : PlatenIx → State → Response × State} (hf : ∀ (p : PlatenIx) (s : State), s.KeepsDoseLaw (f p s).2)
    (n : Nat) (s : State) : s.KeepsDoseLaw (withPlaten f n s).2 := by
  unfold withPlaten
  split
  · exact .refl s
  · exact hf _ s

/-! ### Heads and zones -/

theorem State.placeStep_tends (s : State) (h : HeadIx) (t : Step) : s.Tends (s.placeStep h t) := by
  have placed := s.modHead_tends h (fun d => { d with steps := d.steps ++ [t] }) fun _ => id
  unfold State.placeStep
  dsimp only
  split
  · exact (placed.trans (State.modHead_tends _ h (fun d => { d with held := none }) fun _ => id)).trans (State.succeed_tends _ h _)
  · exact placed

theorem handleStepLoad_keepsDoseLaw : handleStepLoad.KeepsDoseLaw := withBody_keepsDoseLaw fun q s => by
  split
  · split
    · exact .refl s
    · split
      · exact .refl s
      · split
        · exact .refl s
        · exact (s.placeStep_tends _ _).keepsLaw
  · exact .refl s

theorem handleHeadStart_keepsDoseLaw : handleHeadStart.KeepsDoseLaw := withBody_keepsDoseLaw <| withIx_keepsDoseLaw fun h s => by
  dsimp only
  split
  · exact .refl s
  · split
    · exact .refl s
    · split
      · exact .refl s
      · exact ((s.modHead_tends h Head.makeCurrent fun _ => id).trans (State.enterArmed_tends _ h)).keepsLaw

theorem handleHeadResume_keepsDoseLaw : handleHeadResume.KeepsDoseLaw := withBody_keepsDoseLaw <| withIx_keepsDoseLaw fun h s => by
  split
  · exact .refl s
  · split
    · exact .refl s
    · exact ((s.modHead_tends h (fun d => { d with haltReason := none }) fun _ => id).trans (State.enterIdle_tends _ h)).keepsLaw

theorem State.flushBy_tends (s : State) (h : HeadIx) : s.Tends (s.flushBy h) := by
  have ended := s.endStep_tends h .flushed
  unfold State.flushBy
  split
  · exact .refl s
  · exact .refl s
  · exact ended.trans (State.enterIdle_tends _ h)
  · exact (ended.trans (State.releaseDose_tends _ h)).trans (State.enterIdle_tends _ h)
  · exact ended.trans (State.enterReleasing_tends _ h)
  · exact ended.trans (State.enterReleasing_tends _ h)
  · exact ended.trans (State.enterReleasing_tends _ h)
  · exact (s.endHeld_tends h _).trans (State.enterReleasing_tends _ h)
  · exact ended

theorem handleHeadFlush_keepsDoseLaw : handleHeadFlush.KeepsDoseLaw := withBody_keepsDoseLaw <| withIx_keepsDoseLaw fun h s =>
  ((s.modHead_tends h (fun d => { d with steps := if s.heads[h.val].current then s.heads[h.val].steps.take 1 else [] }) fun _ => id).trans
    (State.flushBy_tends _ h)).keepsLaw

theorem handleHeadStandby_keepsDoseLaw : handleHeadStandby.KeepsDoseLaw := withBody_keepsDoseLaw fun q s => by
  split
  · next h b _ _ =>
    split
    · exact .refl s
    · exact ((s.modHead_tends h (fun d => { d with standby := b }) fun _ => id).trans (State.setModes_tends _ h _)).keepsLaw
  · exact .refl s

theorem handleTrimSet_keepsDoseLaw : handleTrimSet.KeepsDoseLaw := withBody_keepsDoseLaw fun q s =>
  withIx_keepsDoseLaw (fun h s => s.modHead_keepsDoseLaw h _ fun _ => id) q.head s

theorem handleHeadLimits_keepsDoseLaw : handleHeadLimits.KeepsDoseLaw := withBody_keepsDoseLaw fun q s => by
  split
  · exact .refl s
  · split
    · exact .refl s
    · split
      · exact .refl s
      · exact s.modHead_keepsDoseLaw _ _ fun _ => id

theorem handleZoneCal_keepsDoseLaw : handleZoneCal.KeepsDoseLaw := withBody_keepsDoseLaw fun q s => by
  split
  · split
    · exact .refl s
    · exact s.modHead_keepsDoseLaw _ _ fun _ => id
  · exact .refl s

/-! ### Platens, doses and lines -/

theorem handlePlatenMode_keepsDoseLaw : handlePlatenMode.KeepsDoseLaw := withBody_keepsDoseLaw fun q s => by
  split
  · dsimp only
    split
    · exact .refl s
    · dsimp only
      exact s.changeMode_keepsDoseLaw _ _
  · exact .refl s

/-- A configuration whose flow limit covers the reservation leaves the platen within its budget (R57). -/
theorem State.setConfig_keepsDoses (s : State) (p : PlatenIx) (c : PlatenConfig) (covers : s.platens[p.val].reservation ≤ c.flowLimit) :
    s.KeepsDoses (s.setConfig p c) := by
  have platen : ∀ q : PlatenIx, (s.setConfig p c).platens[q.val]
      = if q = p then { s.platens[q.val] with config := c } else s.platens[q.val] := fun q => by
    rw [State.setConfig, State.modPlaten_platens, get_set]
    split
    · next e => rw [e]
    · rfl
  refine ⟨rfl, rfl, fun q => ?_, fun _ => id, fun ⟨pool, budgets⟩ => ⟨?_, ?_⟩, fun _ _ live => .inl ⟨live, .refl _⟩⟩
  · rw [platen]
    split <;> rfl
  · exact pool.congr rfl rfl (fun _ => ⟨rfl, rfl⟩) fun _ _ x => pool.owner x
  · refine budgets.congr (fun _ => .refl _) (fun _ => ⟨rfl, id⟩) fun q => ?_
    rw [platen]
    split
    · next e => subst e; exact ⟨rfl, fun _ => covers⟩
    · exact ⟨rfl, id⟩

theorem handlePlatenConfig_keepsDoseLaw : handlePlatenConfig.KeepsDoseLaw := withBody_keepsDoseLaw fun q s => by
  split
  · next p c _ _ =>
    dsimp only
    split
    · exact .refl s
    · next covers =>
      have rounds := State.round_tends (s.setConfig p c) p fun s l => s.holdsFor l p
      have keeps := (s.setConfig_keepsDoses p c (Nat.not_lt.mp covers)).trans rounds.toKeepsDoses
      dsimp only
      exact keeps.keepsLaw
  · exact .refl s

theorem handleDoseSubmit_keepsDoseLaw : handleDoseSubmit.KeepsDoseLaw := withBody_keepsDoseLaw fun q s => by
  split
  · split
    · exact .refl s
    · split
      · exact .refl s
      · split
        · exact .refl s
        · exact .refl s
        · next head => exact ((s.submission_keepsDoses _ _ _ head rfl).trans (State.attempt_tends _ _).toKeepsDoses).keepsLaw
  · exact .refl s

theorem handleDoseCancel_keepsDoseLaw : handleDoseCancel.KeepsDoseLaw := withBody_keepsDoseLaw <| withIx_keepsDoseLaw fun r s => by
  dsimp only
  split
  · exact .refl s
  · split
    · exact (s.cancel_keepsDoses r).keepsLaw
    · exact .refl s

theorem handleDoseRelease_keepsDoseLaw : handleDoseRelease.KeepsDoseLaw := withBody_keepsDoseLaw <| withIx_keepsDoseLaw fun r s => by
  split
  · next held => exact (s.giveBack_keepsDoses r held).keepsLaw
  · exact .refl s

theorem handleLineConfig_keepsDoseLaw : handleLineConfig.KeepsDoseLaw := withBody_keepsDoseLaw fun q s => by
  split
  · next l c _ _ =>
    dsimp only
    split
    · exact .refl s
    · next covers =>
      split
      · exact .refl s
      · exact ((s.modLine_keepsDoses l (fun n => { n with config := c, credits := c.weights, faultSince := none }) id rfl rfl rfl
          fun _ => Nat.not_lt.mp covers).trans (State.attempt_tends _ l).toKeepsDoses).keepsLaw
  · exact .refl s

theorem State.openLine_keepsDoses (s : State) (l : LineIx) : s.KeepsDoses (s.openLine l) := by
  unfold State.openLine
  split
  · exact (s.modLine_keepsDoses l (fun c => { c with state := .ready, credits := c.config.weights, volume := 0 }) (fun _ => rfl) rfl rfl rfl
      id).trans (State.attempt_tends _ l).toKeepsDoses
  · exact (s.modLine_keepsDoses l (fun c => { c with state := .ready }) (fun _ => rfl) rfl rfl rfl id).trans (State.attempt_tends _ l).toKeepsDoses
  · exact .refl s

theorem handleLineTeardown_keepsDoseLaw : handleLineTeardown.KeepsDoseLaw := withBody_keepsDoseLaw <| withIx_keepsDoseLaw fun l s => by
  dsimp only
  split
  · exact .refl s
  · exact fun run law =>
    have ⟨power, after⟩ := s.tearDown_law l run law
    ⟨State.running_congr power run, after⟩

/-- A line begins to prime with no dose admitted (R98). -/
theorem State.prime_keepsDoseLaw (s : State) (l : LineIx) (due : Option Nat) (empty : s.lines[l.val].admitted = []) :
    s.KeepsDoseLaw (s.modLine l fun c => { c with state := .priming, primeDue := due }) := fun run law => by
  obtain ⟨pool, budgets⟩ := s.modLine_fits l (fun c => { c with state := .priming, primeDue := due }) rfl rfl rfl id ⟨law.1, law.2.1⟩
  refine ⟨run, pool, budgets, fun r live => ⟨run, ?_, (law.2.2 r live).2.2⟩⟩
  rw [State.modLine_lines, get_set, if_neg]
  · exact (law.2.2 r live).2.1
  · intro e
    have admitted := law.1.mem_admitted.mpr ⟨DoseState.admitted_of_live live, e⟩
    rw [empty] at admitted
    cases admitted

theorem handleLinePrime_keepsDoseLaw : handleLinePrime.KeepsDoseLaw := withBody_keepsDoseLaw <| withIx_keepsDoseLaw fun l s => by
  split
  · next h =>
    unfold State.canPrime at h
    simp only [Bool.and_eq_true, List.isEmpty_iff] at h
    exact s.prime_keepsDoseLaw l _ h.1.2
  · exact .refl s

/-! ### Conditioners, wear maps, watches, signals and the carousel -/

/-- Work that spares power, STOP, the doses and the heads. -/
def State.SparesDoses (s t : State) : Prop := t.doseParts = s.doseParts ∧ t.heads = s.heads

theorem State.SparesDoses.trans {a b c : State} (h : a.SparesDoses b) (k : b.SparesDoses c) : a.SparesDoses c :=
  ⟨k.1.trans h.1, k.2.trans h.2⟩

theorem State.SparesDoses.keepsLaw {s t : State} (h : s.SparesDoses t) : s.KeepsDoseLaw t := by
  obtain ⟨parts, heads⟩ := h
  exact .of_parts parts fun k r => by rw [heads]; exact id

theorem withBody_spares {α : Type} {parse : List Byte → Option α} {f : α → State → Response × State}
    (hf : ∀ (q : α) (s : State), s.SparesDoses (f q s).2) : Handler.KeepsDoseLaw (withBody parse f) :=
  withBody_keepsDoseLaw fun q s => (hf q s).keepsLaw

theorem withIx_spares {k : Nat} {parse : List Byte → Option Nat} {f : Fin k → State → Response × State}
    (hf : ∀ (i : Fin k) (s : State), s.SparesDoses (f i s).2) : Handler.KeepsDoseLaw (withBody parse (withIx k f)) :=
  withBody_keepsDoseLaw <| withIx_keepsDoseLaw fun i s => (hf i s).keepsLaw

theorem withPlaten_spares {parse : List Byte → Option Nat} {f : PlatenIx → State → Response × State}
    (hf : ∀ (p : PlatenIx) (s : State), s.SparesDoses (f p s).2) : Handler.KeepsDoseLaw (withBody parse (withPlaten f)) :=
  withBody_keepsDoseLaw <| withPlaten_keepsDoseLaw fun p s => (hf p s).keepsLaw

theorem handleCondProfile_keepsDoseLaw : handleCondProfile.KeepsDoseLaw := withBody_spares fun q s => by
  repeat' split
  all_goals exact ⟨rfl, rfl⟩

theorem handleCondRun_keepsDoseLaw : handleCondRun.KeepsDoseLaw := withBody_spares fun q s => by
  repeat' split
  all_goals exact ⟨rfl, rfl⟩

theorem handleCondStop_keepsDoseLaw : handleCondStop.KeepsDoseLaw := withPlaten_spares fun p s => by
  split <;> exact ⟨rfl, rfl⟩

theorem handlePadChange_keepsDoseLaw : handlePadChange.KeepsDoseLaw := withPlaten_spares fun p s => by
  split <;> exact ⟨rfl, rfl⟩

theorem handleWearSet_keepsDoseLaw : handleWearSet.KeepsDoseLaw := withBody_spares fun q s => by
  repeat' split
  all_goals exact ⟨rfl, rfl⟩

theorem handleWatchDefine_keepsDoseLaw : handleWatchDefine.KeepsDoseLaw := withBody_spares fun q s => by
  dsimp only
  repeat' split
  all_goals exact ⟨rfl, rfl⟩

theorem handleWatchArm_keepsDoseLaw : handleWatchArm.KeepsDoseLaw := withIx_spares fun w s => by
  split <;> exact ⟨rfl, rfl⟩

theorem handleWatchDisarm_keepsDoseLaw : handleWatchDisarm.KeepsDoseLaw := withIx_spares fun w s => by
  dsimp only
  split <;> exact ⟨rfl, rfl⟩

theorem handleWatchExchange_keepsDoseLaw : handleWatchExchange.KeepsDoseLaw := withBody_spares fun q s => by
  dsimp only
  repeat' split
  all_goals exact ⟨rfl, rfl⟩

/-- A new input calibration clears a zone's offset and flag at most. -/
theorem State.calibrate_keepsDoseLaw (s : State) (c : ChanIx) (cal : InputCal) : s.KeepsDoseLaw (s.calibrate c cal) := by
  unfold State.calibrate
  dsimp only
  split
  · exact .of_parts rfl fun _ _ => id
  · refine .trans ?_ (State.modHead_keepsDoseLaw _ _ (fun d => d.modZone _ Zone.clearOffset) fun _ => id)
    exact .of_parts rfl fun _ _ => id

theorem handleInputCal_keepsDoseLaw : handleInputCal.KeepsDoseLaw := withBody_keepsDoseLaw fun q s => by
  split
  · exact .refl s
  · split
    · exact .refl s
    · exact s.calibrate_keepsDoseLaw _ _

theorem handleSourceRead_keepsDoseLaw : handleSourceRead.KeepsDoseLaw := withBody_spares fun q s => by
  split <;> exact ⟨rfl, rfl⟩

theorem handleMonitorRoute_keepsDoseLaw : handleMonitorRoute.KeepsDoseLaw := withBody_spares fun q s => by
  repeat' split
  all_goals exact ⟨rfl, rfl⟩

theorem handleTraceSet_keepsDoseLaw : handleTraceSet.KeepsDoseLaw := withBody_spares fun q s => by
  split <;> exact ⟨rfl, rfl⟩

theorem handleIndexRequest_keepsDoseLaw : handleIndexRequest.KeepsDoseLaw := withBody_keepsDoseLaw fun q s => by
  split
  · exact .refl s
  · split
    · exact .refl s
    · split
      · exact .refl s
      · refine State.KeepsDoseLaw.trans ?_ (State.testReady_tends _).keepsLaw
        exact .of_parts rfl fun _ _ => id

theorem handleIndexCancel_keepsDoseLaw : handleIndexCancel.KeepsDoseLaw := withBody_spares fun q s => by
  split <;> exact ⟨rfl, rfl⟩

theorem handleIndexResync_keepsDoseLaw : handleIndexResync.KeepsDoseLaw := withBody_spares fun q s => by
  repeat' split
  all_goals exact ⟨rfl, rfl⟩

/-! ### The store and the restart -/

theorem handleSettingsSave_keepsDoseLaw : handleSettingsSave.KeepsDoseLaw := withBody_spares fun _ s => by
  split <;> exact ⟨rfl, rfl⟩

theorem handleWearCommit_keepsDoseLaw : handleWearCommit.KeepsDoseLaw := withPlaten_spares fun p s => by
  split <;> exact ⟨rfl, rfl⟩

theorem handleWearRetire_keepsDoseLaw : handleWearRetire.KeepsDoseLaw := withPlaten_spares fun p s => by
  split <;> exact ⟨rfl, rfl⟩

theorem handleRestart_keepsDoseLaw : handleRestart.KeepsDoseLaw := withBody_spares fun _ s => by
  split <;> exact ⟨rfl, rfl⟩

/-! ### Dispatch -/

/-- A request that only answers. -/
theorem withBody_answer_keepsDoseLaw {α : Type} {parse : List Byte → Option α} {r : α → State → Response} :
    Handler.KeepsDoseLaw (withBody parse fun q s => (r q s, s)) := withBody_keepsDoseLaw fun _ s => .refl s

/-- Every block that owns a request kind keeps the laws of the doses. -/
theorem handlerOf_keepsDoseLaw (kind : Byte) : Handler.KeepsDoseLaw ((handlerOf kind).getD handleUnknown) := by
  have readIx : ∀ (k : Nat) (r : Fin k → State → Response), Handler.KeepsDoseLaw (withBody parseOne <| withIx k fun i s => (r i s, s)) :=
    fun _ _ => withBody_keepsDoseLaw <| withIx_keepsDoseLaw fun _ s => .refl s
  have readPlaten : ∀ r : PlatenIx → State → Response, Handler.KeepsDoseLaw (withBody parseOne <| withPlaten fun p s => (r p s, s)) :=
    fun _ => withBody_keepsDoseLaw <| withPlaten_keepsDoseLaw fun _ s => .refl s
  unfold handlerOf
  split
  exacts [withBody_answer_keepsDoseLaw, withBody_answer_keepsDoseLaw, handleRestart_keepsDoseLaw, handleSettingsSave_keepsDoseLaw,
    handleStepLoad_keepsDoseLaw, handleHeadStart_keepsDoseLaw,
    withBody_keepsDoseLaw <| withIx_keepsDoseLaw fun h s => (s.haltHead_tends h _ _ _).keepsLaw, handleHeadResume_keepsDoseLaw,
    handleHeadFlush_keepsDoseLaw, handleHeadStandby_keepsDoseLaw, handleTrimSet_keepsDoseLaw, handleHeadLimits_keepsDoseLaw, readIx 4 _,
    handleZoneCal_keepsDoseLaw, handlePlatenMode_keepsDoseLaw, handlePlatenConfig_keepsDoseLaw, readPlaten _, handleDoseSubmit_keepsDoseLaw,
    handleDoseCancel_keepsDoseLaw, readIx 64 _, handleDoseRelease_keepsDoseLaw, handleLineConfig_keepsDoseLaw,
    withBody_keepsDoseLaw <| withIx_keepsDoseLaw fun l s => (s.openLine_keepsDoses l).keepsLaw, handleLineTeardown_keepsDoseLaw,
    handleLinePrime_keepsDoseLaw, readIx 4 _, handleCondProfile_keepsDoseLaw, handleCondRun_keepsDoseLaw, handleCondStop_keepsDoseLaw,
    handlePadChange_keepsDoseLaw, handleWearSet_keepsDoseLaw, readPlaten _, handleWearCommit_keepsDoseLaw,
    withPlaten_spares fun _ _ => ⟨rfl, rfl⟩, handleWearRetire_keepsDoseLaw,
    handleWatchDefine_keepsDoseLaw, handleWatchArm_keepsDoseLaw, handleWatchDisarm_keepsDoseLaw, handleWatchExchange_keepsDoseLaw,
    readIx 16 _, withBody_answer_keepsDoseLaw, handleInputCal_keepsDoseLaw, handleSourceRead_keepsDoseLaw, handleMonitorRoute_keepsDoseLaw,
    handleTraceSet_keepsDoseLaw, handleIndexRequest_keepsDoseLaw, handleIndexCancel_keepsDoseLaw, handleIndexResync_keepsDoseLaw,
    withBody_answer_keepsDoseLaw, fun _ s => .refl s]

/-- Work beside the doses keeps their laws, whether the part runs or not. -/
theorem State.SparesDoses.law {s t : State} (h : s.SparesDoses t) (law : s.DoseLaw) : t.DoseLaw := by
  obtain ⟨parts, heads⟩ := h
  have keeps : s.KeepsDoses t := .of_parts parts fun k r => by rw [heads]; exact id
  simp only [State.doseParts, Prod.mk.injEq] at parts
  obtain ⟨power, stop, recs, -, lines, platens⟩ := parts
  obtain ⟨pool, budgets⟩ := keeps.fits ⟨law.1, law.2.1⟩
  refine ⟨pool, budgets, fun r live => ?_⟩
  rw [recs] at live
  obtain ⟨run, ready, eligible, released⟩ := law.2.2 r live
  refine ⟨State.running_congr power run, ?_, ?_, stop.trans released⟩
  · simp only [recs, lines]
    exact ready
  · exact (State.eligible_congr (by rw [recs]) (by rw [recs]) fun p => by rw [platens]).trans eligible

/-- A request moves the doses of a part that runs alone: a closed receiver takes bytes at most. -/
theorem arrive_doseLaw (kind tag : Byte) (body : List Byte) (f : Handler) (hf : f.KeepsDoseLaw) (s : State) (law : s.DoseLaw) :
    (arrive kind tag body f s).DoseLaw := by
  have link : ∀ (u : State) (g : Link → Link), u.SparesDoses (u.modLink g) := fun _ _ => ⟨rfl, rfl⟩
  unfold arrive
  split
  · next h =>
    have done := hf body s.judging (State.running_of_isOpen h) ((link s _).law law)
    exact (link _ _).law done.2
  · split
    · exact law
    · exact (link s _).law law

theorem State.dispatch_doseLaw (s : State) (kind tag : Byte) (body : List Byte) (law : s.DoseLaw) : (s.dispatch kind tag body).DoseLaw :=
  arrive_doseLaw kind tag body _ (handlerOf_keepsDoseLaw kind) s law

end Sys2Proof.Machine
end

section
/-! The laws of the doses under every event, and under every step (R55, R63, R65, R88, R97). -/

namespace Sys2Proof.Machine

/-- Work of an event keeps the laws of the doses: a part that does not run takes no such event. -/
theorem State.whenRunning_doseLaw {s : State} {f : State → State} (hf : s.KeepsDoseLaw (f s)) (law : s.DoseLaw) :
    (s.whenRunning f).DoseLaw := by
  unfold State.whenRunning
  split
  · next run => exact (hf run law).2
  · exact law

/-! ### Timers of heads and zones -/

theorem State.reach_keepsDoseLaw (s : State) (t : Nat) : s.KeepsDoseLaw (s.reach t) := (s.reach_keepsDoses t).keepsLaw

theorem State.updateExpires_keepsDoseLaw (s : State) (h : HeadIx) : s.KeepsDoseLaw (s.updateExpires h) := by
  unfold State.updateExpires
  split
  · exact .refl s
  · exact (s.reach_keepsDoseLaw _).trans (State.modHead_keepsDoseLaw _ h _ fun r e => (s.heads[h.val].compute_timers _).2.2 ▸ e)

theorem State.rampEnds_keepsDoseLaw (s : State) (h : HeadIx) : s.KeepsDoseLaw (s.rampEnds h) := by
  unfold State.rampEnds
  dsimp only
  split
  · exact (s.reach_keepsDoseLaw _).trans (State.startSettle_tends _ h _).keepsLaw
  · exact .refl s

theorem State.settleExpires_keepsDoseLaw (s : State) (h : HeadIx) : s.KeepsDoseLaw (s.settleExpires h) := by
  unfold State.settleExpires
  dsimp only
  split
  · exact (s.reach_keepsDoseLaw _).trans (State.modHead_keepsDoseLaw _ h _ fun _ => id)
  · exact .refl s

theorem State.windowEnds_keepsDoseLaw (s : State) (h : HeadIx) (z : ZoneIx) : s.KeepsDoseLaw (s.windowEnds h z) := by
  unfold State.windowEnds
  split
  · exact .refl s
  · exact (s.reach_keepsDoseLaw _).trans (State.modHead_keepsDoseLaw _ h _ fun _ => id)

theorem State.leadExpires_keepsDoseLaw (s : State) (h : HeadIx) : s.KeepsDoseLaw (s.leadExpires h) := by
  unfold State.leadExpires
  dsimp only
  split
  · exact (s.reach_keepsDoseLaw _).trans (State.enterPressing_tends _ h).keepsLaw
  · exact .refl s

theorem State.limitReached_keepsDoseLaw (s : State) (h : HeadIx) : s.KeepsDoseLaw (s.limitReached h) := by
  unfold State.limitReached
  dsimp only
  split
  · next t _ _ =>
    refine (s.reach_keepsDoseLaw (s.heads[h.val].pressStart + t.timeLimit)).trans ?_
    split
    · exact (State.endAndSucceed_tends _ h _).keepsLaw
    · split
      · exact (State.haltHead_tends _ h _ _ _).keepsLaw
      · exact (State.endAndSucceed_tends _ h _).keepsLaw
  · exact .refl s

theorem State.overpolishExpires_keepsDoseLaw (s : State) (h : HeadIx) : s.KeepsDoseLaw (s.overpolishExpires h) := by
  unfold State.overpolishExpires
  dsimp only
  split
  · exact (s.reach_keepsDoseLaw _).trans (State.endAndSucceed_tends _ h _).keepsLaw
  · exact .refl s

theorem State.starveExpires_keepsDoseLaw (s : State) (h : HeadIx) : s.KeepsDoseLaw (s.starveExpires h) := by
  unfold State.starveExpires
  dsimp only
  split
  · exact (s.reach_keepsDoseLaw _).trans (State.starveEnd_tends _ h).keepsLaw
  · exact .refl s

theorem State.releaseExpires_keepsDoseLaw (s : State) (h : HeadIx) : s.KeepsDoseLaw (s.releaseExpires h) := by
  unfold State.releaseExpires
  dsimp only
  split
  · exact (s.reach_keepsDoseLaw _).trans (State.releaseEnd_tends _ h).keepsLaw
  · exact .refl s

/-! ### Conditioners, watches and the trace -/

theorem State.loweringEnds_spares (s : State) (p : PlatenIx) : s.SparesDoses (s.loweringEnds p) := by
  unfold State.loweringEnds
  split <;> exact ⟨rfl, rfl⟩

theorem State.testLifted_spares (s : State) : s.SparesDoses s.testLifted := by
  unfold State.testLifted
  split <;> exact ⟨rfl, rfl⟩

theorem State.raisingEnds_spares (s : State) (p : PlatenIx) : s.SparesDoses (s.raisingEnds p) := by
  unfold State.raisingEnds
  dsimp only
  split
  · have lifted := State.testLifted_spares (((s.reach (s.conds[p.val].entered + Config.armTime)).modCond p
      fun c => { c with arm := .stowed }).post (.condEnd p s.conds[p.val].endReason s.conds[p.val].sweeps s.conds[p.val].segment
        s.conds[p.val].learned !s.conds[p.val].unheld))
    refine (State.SparesDoses.trans ⟨rfl, rfl⟩ lifted).trans ?_
    generalize State.testLifted _ = u
    split <;> exact ⟨rfl, rfl⟩
  · exact ⟨rfl, rfl⟩

theorem State.learn_spares (s : State) (p : PlatenIx) : s.SparesDoses (s.learn p) := by
  unfold State.learn
  dsimp only
  repeat' split
  all_goals exact ⟨rfl, rfl⟩

theorem State.dwellEnds_spares (s : State) (p : PlatenIx) : s.SparesDoses (s.dwellEnds p) := by
  unfold State.dwellEnds
  dsimp only
  split
  · have reached : s.SparesDoses (s.reach (s.conds[p.val].entered + s.conds[p.val].dwell)) := ⟨rfl, rfl⟩
    have learned := reached.trans (State.learn_spares _ p)
    refine learned.trans ?_
    generalize (s.reach (s.conds[p.val].entered + s.conds[p.val].dwell)).learn p = u
    repeat' split
    all_goals exact ⟨rfl, rfl⟩
  · exact ⟨rfl, rfl⟩

theorem State.entryStale_spares (s : State) (p : PlatenIx) (g : SegIx) : s.SparesDoses (s.entryStale p g) := by
  unfold State.entryStale
  split <;> exact ⟨rfl, rfl⟩

theorem State.lifeTick_spares (s : State) (p : PlatenIx) : s.SparesDoses (s.lifeTick p) := by
  unfold State.lifeTick
  split <;> exact ⟨rfl, rfl⟩

theorem State.blankExpires_spares (s : State) (w : WatchIx) : s.SparesDoses (s.blankExpires w) := by
  unfold State.blankExpires
  dsimp only
  split <;> exact ⟨rfl, rfl⟩

theorem State.traceExpires_spares (s : State) : s.SparesDoses s.traceExpires := by
  unfold State.traceExpires
  dsimp only
  repeat' split
  all_goals exact ⟨rfl, rfl⟩

/-! ### The carousel, the link and the store -/

theorem State.liftExpires_spares (s : State) : s.SparesDoses s.liftExpires := by
  unfold State.liftExpires
  split
  · exact State.SparesDoses.trans ⟨rfl, rfl⟩ (State.testLifted_spares _)
  · exact ⟨rfl, rfl⟩

theorem State.indexExpires_spares (s : State) : s.SparesDoses s.indexExpires := by
  unfold State.indexExpires
  split <;> exact ⟨rfl, rfl⟩

theorem State.arriveAt_keepsDoseLaw (s : State) (pos : Station) : s.KeepsDoseLaw (s.arriveAt pos) := by
  unfold State.arriveAt
  dsimp only
  split
  · refine State.KeepsDoseLaw.trans ?_ (forEach_tends _ _ (fun h s => s.tellIndexDone_tends h) _).keepsLaw
    exact .of_parts rfl fun _ _ => id
  · exact .of_parts rfl fun _ _ => id

/-- The wires reach the interlock of a part that runs (R158). -/
theorem State.wirePosition_doseLaw (s : State) (level : Bool) (pos : Station) (law : s.DoseLaw) : (s.wirePosition level pos).DoseLaw := by
  have wired : State.DoseLaw { s with inPosition := level, pos := pos } := State.SparesDoses.law ⟨rfl, rfl⟩ law
  unfold State.wirePosition
  dsimp only
  split
  · next h =>
    unfold State.inPositionMoves
    split
    · split
      · exact State.SparesDoses.law ⟨rfl, rfl⟩ wired
      · exact (State.arriveAt_keepsDoseLaw _ pos (Bool.and_eq_true _ _ ▸ h).1 wired).2
      · exact wired
    · exact wired
  · exact wired

theorem State.frameEnds_spares (s : State) : s.SparesDoses s.frameEnds := by
  unfold State.frameEnds
  dsimp only
  repeat' split
  all_goals exact ⟨rfl, rfl⟩

theorem State.writeEnds_spares (s : State) : s.SparesDoses s.writeEnds := by
  unfold State.writeEnds
  dsimp only
  repeat' split
  all_goals exact ⟨rfl, rfl⟩

/-- A scan of received bytes dispatches whole frames. -/
theorem State.scan_doseLaw (expired : Bool) (fuel : Nat) (bytes : List RxByte) (s : State) (law : s.DoseLaw) :
    (State.scan expired fuel bytes s).DoseLaw := by
  have link : ∀ (u : State) (g : Link → Link), u.DoseLaw → (u.modLink g).DoseLaw := fun _ _ => State.SparesDoses.law ⟨rfl, rfl⟩
  induction fuel generalizing bytes s with
  | zero => exact link s _ law
  | succ n ih =>
    unfold State.scan
    split
    · exact link s _ law
    · split
      · exact link s _ law
      · exact ih _ s law
      · split
        · exact ih _ _ (s.dispatch_doseLaw _ _ _ law)
        · exact ih _ s law

theorem State.takeByte_doseLaw (s : State) (b : Byte) (law : s.DoseLaw) : (s.takeByte b).DoseLaw :=
  State.scan_doseLaw false _ _ _ (State.scan_doseLaw false _ _ s law)

theorem State.gapExpires_doseLaw (s : State) (law : s.DoseLaw) : s.gapExpires.DoseLaw := by
  unfold State.gapExpires
  split
  · exact law
  · exact State.scan_doseLaw true _ _ _ (State.SparesDoses.law (s := s) ⟨rfl, rfl⟩ law)

/-! ### STOP (R199) -/

theorem State.endPriming_keepsDoses (s : State) (l : LineIx) : s.KeepsDoses (s.endPriming l) :=
  (s.modLine_keepsDoses l (fun c => { c with state := .ready, primeDue := none }) (fun _ => rfl) rfl rfl rfl id).trans
    (State.settleCheck_tends _ l).toKeepsDoses

theorem State.takeStop_keepsDoses (x : StopTaker) (s : State) : s.KeepsDoses (s.takeStop x) := by
  unfold State.takeStop
  split
  · exact (s.post_tends _).toKeepsDoses
  · exact (s.haltHead_tends _ _ _ _).toKeepsDoses
  · exact (forEach_tends _ _ (fun r s => s.closeAndTell_tends r _) s).toKeepsDoses
  · split
    · exact s.endPriming_keepsDoses _
    · exact .refl s
  · exact (s.modCond_tends _ _).toKeepsDoses
  · split <;> exact .of_parts rfl fun _ _ => id

theorem takeStops_keepsDoses (xs : List StopTaker) (s : State) : s.KeepsDoses (forEach xs (fun x s => s.takeStop x) s) :=
  forEach_rel .refl .trans xs _ State.takeStop_keepsDoses s

/-- The pool among the blocks that take STOP closes every dose, and none opens after it (R199). -/
theorem takeStops_live (before after : List StopTaker) (s : State) (fits : s.DosesFit) (asserted : s.stop = true) (r : RecIx) :
    (forEach (before ++ .pool :: after) (fun x s => s.takeStop x) s).recs[r.val].state.live = false := by
  rw [forEach_append, forEach_cons]
  have first := takeStops_keepsDoses before s
  generalize forEach before (fun x s => s.takeStop x) s = u at first ⊢
  have pool := State.takeStop_keepsDoses .pool u
  have rest := takeStops_keepsDoses after (u.takeStop .pool)
  have fits' := first.fits fits
  have stays : ∀ {v : State}, u.KeepsDoses v → ¬ v.Permits r := fun k permits => by
    have := (k.stop.trans first.stop).trans asserted
    rw [permits.2.2] at this
    cases this
  refine Bool.eq_false_iff.mpr fun live => ?_
  rcases rest.live (pool.fits fits') r live with ⟨closed, -⟩ | permits
  · exact stays pool (forEach_closeAndTell_live _ .stopped u fits' r (List.mem_finRange r) closed)
  · exact stays (pool.trans rest) permits

/-- No dose is OPENING or FLOWING: places and budgets are the whole law. -/
theorem State.DosesFit.law {s : State} (fits : s.DosesFit) (none : ∀ r : RecIx, s.recs[r.val].state.live = false) : s.DoseLaw :=
  ⟨fits.1, fits.2, fun r live => by rw [none r] at live; cases live⟩

theorem State.DoseLaw.none_live {s : State} (law : s.DoseLaw) (h : s.running = false ∨ s.stop = true) (r : RecIx) :
    s.recs[r.val].state.live = false := by
  refine Bool.eq_false_iff.mpr fun live => ?_
  obtain ⟨run, -, -, released⟩ := law.2.2 r live
  rcases h with h | h
  · rw [run] at h; cases h
  · rw [released] at h; cases h

theorem State.assertStop_doseLaw (s : State) (order : List StopTaker) (law : s.DoseLaw) : (s.assertStop order).DoseLaw := by
  have fits : State.DosesFit { s with stop := true } := ⟨law.1, law.2.1⟩
  unfold State.assertStop
  split
  · exact law
  · dsimp only
    split
    · obtain ⟨before, after, e, -, -⟩ := completeOrder_split order (all := .notice :: stopBlocks) (x := .pool) (by decide) (by decide)
      rw [e]
      exact ((takeStops_keepsDoses _ _).fits fits).law fun r => takeStops_live before after _ fits rfl r
    · next off => exact fits.law fun r => law.none_live (.inl (Bool.eq_false_iff.mpr off)) r

theorem State.releaseStop_doseLaw (s : State) (law : s.DoseLaw) : s.releaseStop.DoseLaw := by
  unfold State.releaseStop
  split
  · next asserted =>
    have released : State.DoseLaw { s with stop := false } := State.DosesFit.law ⟨law.1, law.2.1⟩ fun r => law.none_live (.inr asserted) r
    dsimp only
    split
    · next run =>
      exact (((State.post_tends { s with stop := false } (.stopChange false)).trans
        (forEach_tends allLines _ (fun l s => s.attempt_tends l) _)).keepsLaw run released).2
    · exact released
  · exact law

/-! ### Start-up (R63, R106, R197) -/

/-- Records, lines and platens as a start-up leaves them (R63, R106). -/
structure State.FreshDoses (s : State) : Prop where
  recs : s.recs = Vector.ofFn DoseRec.powerOn
  free : s.free = freeAtPowerOn
  lines : ∃ c : LineIx → LineConfig, s.lines = Vector.ofFn fun l : LineIx => Line.powerOn (c l)
  platens : ∃ c : PlatenIx → PlatenConfig, s.platens = Vector.ofFn fun p : PlatenIx => Platen.powerOn (c p)
  dose : ∀ h : HeadIx, s.heads[h.val].dose = none

theorem State.FreshDoses.record {s : State} (h : s.FreshDoses) (r : RecIx) : s.recs[r.val] = DoseRec.powerOn r := by
  simp [h.recs]

theorem State.FreshDoses.absent {s : State} (h : s.FreshDoses) (r : RecIx) :
    s.recs[r.val].state.admitted = false ∧ s.recs[r.val].state.live = false ∧ s.recs[r.val].state.present = false
      ∧ s.recs[r.val].state ≠ .queued := by
  rw [h.record]
  unfold DoseRec.powerOn
  dsimp only
  split <;> decide

theorem State.FreshDoses.line {s : State} (h : s.FreshDoses) (l : LineIx) :
    s.lines[l.val].admitted = [] ∧ s.lines[l.val].reservation = 0 ∧ ∀ c : ClassIx, s.lines[l.val].queues[c.val] = [] := by
  obtain ⟨c, e⟩ := h.lines
  simp [e, Line.powerOn]

theorem State.FreshDoses.law {s : State} (h : s.FreshDoses) : s.DoseLaw := by
  have zero : ∀ ok : DoseRec → Bool, s.peakSum ok = 0 := fun ok => by
    rw [s.peakSum_eq]
    exact Finset.sum_eq_zero fun r _ => by simp [DoseRec.share, (h.absent r).1]
  refine State.DosesFit.law ⟨⟨fun r => ?_, ?_, fun l => ?_, fun k r e => ?_⟩, fun l => ?_, fun p => ?_⟩ fun r => (h.absent r).2.1
  · obtain ⟨admitted, -, present, unqueued⟩ := h.absent r
    unfold State.Placed
    refine ⟨?_, ?_, ?_, fun l c => ?_, fun l => ?_, fun e => ?_⟩
    · rw [h.record, h.free]
      simp [freeAtPowerOn, DoseRec.powerOn]
    · rw [h.record]
      unfold DoseRec.powerOn
      dsimp only
      split <;> simp_all
    · rw [h.record]
      simp [DoseRec.powerOn]
    · rw [(h.line l).2.2 c]
      simp [unqueued]
    · rw [(h.line l).1, admitted]
      simp
    · rw [present] at e
      cases e
  · rw [h.free]
    exact (List.nodup_finRange 64).filter _
  · obtain ⟨admitted, -, queues⟩ := h.line l
    rw [admitted]
    exact ⟨List.nodup_nil, fun c => by rw [queues]; exact List.nodup_nil⟩
  · rw [h.dose] at e
    cases e
  · rw [(h.line l).2.1, zero]
    exact ⟨rfl, Nat.zero_le _⟩
  · obtain ⟨c, e⟩ := h.platens
    rw [zero]
    simp [e, Platen.powerOn]

theorem State.powerOnBlocks_freshDoses (s : State) (c : ConfigRows) (m : Vector Committed 3) : (s.powerOnBlocks c m).FreshDoses :=
  ⟨rfl, rfl, ⟨_, rfl⟩, ⟨_, rfl⟩, fun h => by simp [State.powerOnBlocks, Head.powerOn]⟩

theorem State.FreshDoses.of_same {s t : State} (h : s.FreshDoses) (recs : t.recs = s.recs) (free : t.free = s.free)
    (lines : t.lines = s.lines) (platens : t.platens = s.platens) (heads : t.heads = s.heads) : t.FreshDoses :=
  ⟨recs.trans h.recs, free.trans h.free, by rw [lines]; exact h.lines, by rw [platens]; exact h.platens, by rw [heads]; exact h.dose⟩

theorem State.beginStartup_freshDoses (s : State) (cause : StartCause) : (s.beginStartup cause).FreshDoses :=
  (s.powerOnBlocks_freshDoses ConfigRows.default (Vector.replicate 3 Committed.default)).of_same rfl rfl rfl rfl rfl

theorem State.loadImage_freshDoses (s : State) : s.loadImage.FreshDoses :=
  (s.powerOnBlocks_freshDoses (if s.store.image.loads then s.store.image.config else ConfigRows.default)
    (if s.store.image.loads then s.store.image.committed else Vector.replicate 3 Committed.default)).of_same rfl rfl rfl rfl rfl

theorem State.beginWindows_tends (s : State) : s.Tends s.beginWindows := forEach_tends _ _ (fun h s => s.modHead_tends h _ fun _ => id) s

/-- A start-up ends with no dose under way, and an asserted STOP finds none (R197). -/
theorem State.readEnds_doseLaw (s : State) (order : List StopTaker) (law : s.DoseLaw) : (s.readEnds order).DoseLaw := by
  unfold State.readEnds
  split
  · next cause since _ =>
    have image := (s.reach (since + Config.readTime)).loadImage_freshDoses
    have started : ∀ (u : State) (n : Notice) (stops : List StopTaker), u.FreshDoses → u.power = .running →
        (if (u.beginWindows.post n).stop then forEach stops (fun x s => s.takeStop x) (u.beginWindows.post n)
          else u.beginWindows.post n).DoseLaw := fun u n stops fresh power => by
      have run : u.running = true := by simp [State.running, power]
      have noticed := (u.beginWindows_tends.trans (State.post_tends _ n)).toKeepsDoses
      split
      · exact ((noticed.trans (takeStops_keepsDoses stops _)).keepsLaw run fresh.law).2
      · exact (noticed.keepsLaw run fresh.law).2
    dsimp only
    exact started _ _ _ (image.of_same rfl rfl rfl rfl rfl) rfl
  · exact law

/-! ### Every command, every step -/

theorem exec_doseLaw (c : Instr) (s t : State) (h : exec c s = .next t) (law : s.DoseLaw) : t.DoseLaw := by
  cases hq : c.request with
  | some q =>
    rw [exec_request c s q.1 q.2.1 q.2.2 hq] at h
    cases h
    exact s.dispatch_doseLaw _ _ _ law
  | none =>
    have runs : ∀ {f : State → State}, s.KeepsDoseLaw (f s) → (s.whenRunning f).DoseLaw := fun k => State.whenRunning_doseLaw k law
    cases c with
    | unknownKind kind tag body => cases h; exact s.dispatch_doseLaw _ _ _ law
    | frameDiscard b | byteArrival b =>
      cases h
      split
      · exact law
      · exact s.takeByte_doseLaw b law
    | receiveGapTimeout => cases h; exact s.gapExpires_doseLaw law
    | frameSent => cases h; exact runs s.frameEnds_spares.keepsLaw
    | powerOn => cases h; exact (s.beginStartup_freshDoses .powerOn).law
    | powerLoss => cases h; exact ((s.beginStartup_freshDoses .powerOn).of_same rfl rfl rfl rfl rfl).law
    | startupReadEnd order => cases h; exact s.readEnds_doseLaw order law
    | restartTakesPlace =>
      cases h
      unfold State.whenRunning
      split
      · dsimp only
        split
        · exact (s.beginStartup_freshDoses .restart).law
        · exact law
      · exact law
    | saveWriteEnd => cases h; exact runs s.writeEnds_spares.keepsLaw
    | stopAssert order => cases h; exact s.assertStop_doseLaw order law
    | stopRelease => cases h; exact s.releaseStop_doseLaw law
    | inPositionChange level pos => cases h; exact s.wirePosition_doseLaw level pos law
    | liftTimerExpiry => cases h; exact runs s.liftExpires_spares.keepsLaw
    | indexTimerExpiry => cases h; exact runs s.indexExpires_spares.keepsLaw
    | headUpdateTimer k => cases h; exact runs (s.updateExpires_keepsDoseLaw k)
    | rampEnd k => cases h; exact runs (s.rampEnds_keepsDoseLaw k)
    | settleTimeExpiry k => cases h; exact runs (s.settleExpires_keepsDoseLaw k)
    | leadTimeExpiry k => cases h; exact runs (s.leadExpires_keepsDoseLaw k)
    | stepTimeLimit k => cases h; exact runs (s.limitReached_keepsDoseLaw k)
    | overpolishExpiry k => cases h; exact runs (s.overpolishExpires_keepsDoseLaw k)
    | starveLimitExpiry k => cases h; exact runs (s.starveExpires_keepsDoseLaw k)
    | releaseTimeExpiry k => cases h; exact runs (s.releaseExpires_keepsDoseLaw k)
    | autoZeroWindowEnd k z => cases h; exact runs (s.windowEnds_keepsDoseLaw k z)
    | sourceSample src raw order => cases h; exact runs (s.sample_keepsDoseLaw src _ order)
    | blankTimeExpiry w => cases h; exact runs (s.blankExpires_spares w).keepsLaw
    | traceTimerExpiry => cases h; exact runs s.traceExpires_spares.keepsLaw
    | doseOpeningEnd r => cases h; exact runs (s.openingEnds_keepsDoses r).keepsLaw
    | doseMeterTick r => cases h; exact runs (s.meterTick_keepsDoses r).keepsLaw
    | doseSegmentEnd r => cases h; exact runs (s.segmentEnds_keepsDoses r).keepsLaw
    | doseCapReached r => cases h; exact runs (s.capReached_keepsDoses r).keepsLaw
    | doseClosingEnd r => cases h; exact runs (s.closingEnds_keepsDoseLaw r)
    | primeTimerExpiry l => cases h; exact runs (s.primeExpires_keepsDoses l).keepsLaw
    | condLoweringEnd p => cases h; exact runs (s.loweringEnds_spares p).keepsLaw
    | condRaisingEnd p => cases h; exact runs (s.raisingEnds_spares p).keepsLaw
    | condDwellEnd p => cases h; exact runs (s.dwellEnds_spares p).keepsLaw
    | learnedEntryStale p g => cases h; exact runs (s.entryStale_spares p g).keepsLaw
    | padLifeTick p => cases h; exact runs (s.lifeTick_spares p).keepsLaw
    | _ => cases hq

/-- Settles O42: places and budgets under every piece of work, and every dose that is OPENING or FLOWING after it was permitted before
it, or has been closed by it, or was opened by an attempt. -/
theorem doseLawsAreKept : Obligations.DoseLawsAreKept := fun s t law h =>
  step_keeps (P := State.DoseLaw) (fun _ _ => State.SparesDoses.law ⟨rfl, rfl⟩) (fun _ => State.SparesDoses.law ⟨rfl, rfl⟩) exec_doseLaw
    s t h law

end Sys2Proof.Machine
end

section
/-! DOSE-SUBMIT: its checks in order, and the record it fills (R66 to R69). -/

namespace Sys2Proof.Machine

/-- The fields of a submission within range (R66, check 1). -/
theorem DoseBody.inRange_iff (q : DoseBody) : q.inRange = true ↔ q.purpose ≤ 7 ∧ q.flags ≤ 1 ∧ q.policy ≤ 2 ∧ 1 ≤ q.segments.length
    ∧ q.segments.length ≤ 4 ∧ (∀ g ∈ q.segments, g.1 ≤ 600 ∧ 100 ≤ g.2 ∧ g.2 ≤ 600000) ∧ q.cap ≤ 100000 := by
  simp only [DoseBody.inRange, Bool.and_eq_true, decide_eq_true_eq, List.all_eq_true]
  simp only [and_assoc]

/-- Check 1 and check 2 refuse before the line is looked at. -/
theorem handleDoseSubmit_ill (body : List Byte) (q : DoseBody) (s : State) (hq : parseDose body = some q)
    (h : q.platen = 0 ∨ 3 < q.platen ∨ 4 ≤ q.line ∨ q.inRange = false ∨ q.sum < q.cap * 6000) :
    handleDoseSubmit body s = (.refuse .badValue, s) := by
  unfold handleDoseSubmit
  rw [withBody_some _ _ _ _ _ hq]
  split
  · next p l hp hl =>
    have platen := toPlaten_some hp
    have line := toIx_some hl
    rcases h with none | beyond | beyond | ill | short
    · omega
    · omega
    · omega
    · simp [ill]
    · simp [short]
  · rfl

/-- The further checks of a well-formed submission to line `l` and platen `p` (R66). -/
theorem handleDoseSubmit_checks (body : List Byte) (q : DoseBody) (s : State) (p : PlatenIx) (l : LineIx) (hq : parseDose body = some q)
    (hp : q.platen = p.val + 1) (hl : q.line = l.val) (ok : q.inRange = true) (enough : q.cap * 6000 ≤ q.sum) :
    (∀ r, s.lineChecks l p q.peak = some r → handleDoseSubmit body s = (.refuse r, s))
    ∧ (s.lineChecks l p q.peak = none → s.free = [] → handleDoseSubmit body s = (.refuse .poolEmpty, s))
    ∧ ∀ r rest, s.lineChecks l p q.peak = none → s.free = r :: rest →
      let cls := s.platens[p.val].config.classFor q.purpose
      let u := s.submission r rest (q.record p l cls s.now)
      handleDoseSubmit body s = (.ok (p1 r.val ++ p1 cls.val ++ p4 (nextSequence s.counter) ++ p1 rest.length), u.attempt l) := by
  have short : ¬ q.sum < q.cap * 6000 := Nat.not_lt.mpr enough
  unfold handleDoseSubmit
  rw [withBody_some _ _ _ _ _ hq, hp, hl, toPlaten_succ, toIx_val]
  simp only [ok, Bool.not_true, Bool.false_eq_true, if_false, if_neg short]
  refine ⟨fun r h => ?_, fun h e => ?_, fun r rest h e => ?_⟩
  · rw [h]
  · rw [h, e]
  · rw [h, e]
    rfl

/-! ### The checks against line and platen -/

section checks

variable (s : State) (l : LineIx) (p : PlatenIx) (peak : Nat)

theorem State.lineChecks_down (h : ¬ (s.lines[l.val].state ≠ .offline ∧ s.lines[l.val].state ≠ .teardown)) :
    s.lineChecks l p peak = some .lineOffline := by
  have down : s.lines[l.val].state = .offline ∨ s.lines[l.val].state = .teardown := by tauto
  simp [State.lineChecks, down]

theorem State.lineChecks_up (h : s.lines[l.val].state ≠ .offline ∧ s.lines[l.val].state ≠ .teardown) : s.lineChecks l p peak =
    if ¬ s.lines[l.val].config.membership[p.val] = true then some .notMember
    else if ¬ (peak ≤ s.lines[l.val].config.capacity ∧ peak ≤ s.platens[p.val].config.flowLimit) then some .badValue else none := by
  unfold State.lineChecks
  dsimp only
  rw [if_neg (by tauto)]
  congr 1
  · simp
  · congr 1
    simp only [Bool.or_eq_true, decide_eq_true_eq]
    exact propext (by omega)

end checks

/-! ### The filled record -/

/-- The class of a dose with a purpose in range (R58). -/
theorem PlatenConfig.classFor_eq (c : PlatenConfig) {purpose : Nat} (h : purpose ≤ 7) :
    c.classFor purpose = min c.classes[purpose % 8] c.ceiling := by
  have e : purpose % 8 = purpose := Nat.mod_eq_of_lt (by omega)
  have get : c.classes.toList.getD purpose 0 = c.classes[purpose % 8] := by
    simp [e, List.getD, show purpose < 8 by omega]
  rw [PlatenConfig.classFor, get]

theorem policyOf_eq (n : Nat) : policyOf n = if n = 0 then .notify else if n = 1 then .silent else .hold := by
  unfold policyOf
  split <;> simp_all

/-- The record as the submission leaves it: each field of the request, the sequence number, the class, and counts of 0 (R68). -/
def DoseBody.filled (q : DoseBody) (p : PlatenIx) (l : LineIx) (cls : ClassIx) (n now : Nat) : DoseRec :=
  { q.record p l cls now with sequence := n }

theorem DoseBody.filled_eq (q : DoseBody) (p : PlatenIx) (l : LineIx) (cls : ClassIx) (n now : Nat) : q.filled p l cls n now =
    { state := .queued, sequence := n, label := q.label, platen := some p, line := l, purpose := q.purpose, cls := cls,
      service := q.flags % 2 == 1, policy := if q.policy = 0 then .notify else if q.policy = 1 then .silent else .hold,
      segments := q.segments.map fun g => ⟨g.1, some g.2⟩, cap := if q.cap = 0 then none else some q.cap,
      peak := (q.segments.map Prod.fst).foldl max 0, segment := 0, segTime := 0, flowTime := 0, acc := 0, reason := none, since := now,
      tickDue := 0 } := by
  have service : flagOf q.flags 0 = (q.flags % 2 == 1) := by simp [flagOf]
  unfold DoseBody.filled DoseBody.record
  rw [service, policyOf_eq]
  rfl

/-- The record in its place, and its line still to be asked. -/
theorem State.submission_eq (s : State) (r : RecIx) (rest : List RecIx) (q : DoseBody) (p : PlatenIx) (l : LineIx) (cls : ClassIx) :
    s.submission r rest (q.record p l cls s.now)
      = ({ s with free := rest, counter := nextSequence s.counter }.modRec r fun _ =>
          q.filled p l cls (nextSequence s.counter) s.now).modLine l fun c =>
            { c with queues := c.queues.set cls.val (c.queues[cls.val] ++ [r]) } := rfl

/-! ### What an accepted submission makes of the part -/

section accepted

variable (s : State) (r : RecIx) (rest : List RecIx) (d : DoseRec)

/-- Only records, lines and platens move, beside the free list and the submission counter. -/
theorem State.submission_attempt_eq (l : LineIx) : (s.submission r rest d).attempt l = { s with
    free := rest, counter := nextSequence s.counter, recs := ((s.submission r rest d).attempt l).recs,
    lines := ((s.submission r rest d).attempt l).lines, platens := ((s.submission r rest d).attempt l).platens } :=
  ((s.submission r rest d).attempt_keeps l).eq

/-- The submitted record waits, or is admitted at once. -/
theorem State.submission_attempt_rec (l : LineIx) :
    let e := { d with state := .queued, sequence := nextSequence s.counter, since := s.now }
    ((s.submission r rest d).attempt l).recs[r.val] = e ∨ ((s.submission r rest d).attempt l).recs[r.val] = { e with state := .opening } := by
  have mine := s.submission_rec r rest d r
  rw [if_pos rfl] at mine
  rcases ((s.submission r rest d).attempt_admits l).recs r with e | ⟨-, e⟩ <;> rw [e, mine]
  · exact .inl rfl
  · exact .inr rfl

/-- Every other record stays, or is a queued one that the attempt admits. -/
theorem State.submission_attempt_others (l : LineIx) (head : s.free = r :: rest) (platen : d.platen.isSome = true) (pool : s.PoolWellKept)
    (k : RecIx) (ne : k ≠ r) : ((s.submission r rest d).attempt l).recs[k.val] = s.recs[k.val]
      ∨ (s.recs[k.val].state = .queued
        ∧ ((s.submission r rest d).attempt l).recs[k.val] = { s.recs[k.val] with state := .opening, since := s.now }) := by
  have opens := ((s.submission r rest d).attempt_opensInPlace l).opens (s.submission_pool r rest d head platen pool) k
  rw [s.submission_others r rest d k ne] at opens
  exact opens

/-- Under STOP the record waits at the tail of its queue. -/
theorem State.submission_attempt_stopped (l : LineIx) (hl : d.line = l) (h : s.stop = true) :
    ((s.submission r rest d).attempt l).platens = s.platens
    ∧ ((s.submission r rest d).attempt l).lines[l.val].queues[d.cls.val] = s.lines[l.val].queues[d.cls.val] ++ [r] := by
  have stopped : (s.submission r rest d).admits l = false := by
    have stop : (s.submission r rest d).stop = true := h
    simp [State.admits, stop]
  rw [State.attempt_of_not_admits _ _ stopped]
  refine ⟨rfl, ?_⟩
  rw [State.modLine_get, s.submission_line, if_pos hl.symm]
  simp

end accepted

/-- An accepted DOSE-SUBMIT: the submission with its attempt, and its reply. -/
theorem exec_doseSubmit (s : State) (tag : Byte) (body : List Byte) (r : RecIx) (rest : List RecIx) (d : DoseRec) (l : LineIx)
    (answer : Response) (ho : s.isOpen = true)
    (hf : handleDoseSubmit body s.judging = (answer, (s.judging.submission r rest d).attempt l)) :
    exec (.doseSubmit tag body) s = .next (((s.submission r rest d).attempt l).replied 0x28 tag answer) := by
  have arrived := arrive_open 0x28 tag body handleDoseSubmit s ho
  have moved := (s.submission r rest d).attempt_modLink l fun k => { k with rx := .hunting, held := true }
  have same : s.judging.submission r rest d = (s.submission r rest d).modLink fun k => { k with rx := .hunting, held := true } := rfl
  rw [hf, same, moved] at arrived
  dsimp only at arrived
  rw [State.judged_reply] at arrived
  exact congrArg Host.Outcome.next arrived

/-- Settles O38: the checks in order, then the submission, of which an attempt admits what it admits. -/
theorem doseSubmitQueuesTheOldestFreeRecord : Obligations.DoseSubmitQueuesTheOldestFreeRecord := by
  intro s tag body q ho hq ok sum peak
  have refuses : ∀ answer, handleDoseSubmit body s.judging = (answer, s.judging) →
      exec (.doseSubmit tag body) s = .next (s.replied 0x28 tag answer) := fun answer h =>
    congrArg Host.Outcome.next (arrive_answer 0x28 tag body handleDoseSubmit s answer ho h)
  refine ⟨fun ill => refuses _ (handleDoseSubmit_ill body q _ hq ?_), fun p l hp hl inRange enough => ?_⟩
  · rw [← Bool.not_eq_true, q.inRange_iff]
    exact ill
  · obtain ⟨fails, empty, accepts⟩ :=
      handleDoseSubmit_checks body q s.judging p l hq hp hl (q.inRange_iff.mpr inRange) enough
    intro c up member fits
    have down := s.judging.lineChecks_down l p q.peak
    have checks := s.judging.lineChecks_up l p q.peak
    refine ⟨fun no => refuses _ (fails _ (down no)), fun yes no => refuses _ (fails _ ((checks yes).trans (if_pos no))),
      fun yes isMember no => refuses _ (fails _ ((checks yes).trans ((if_neg (not_not.mpr isMember)).trans (if_pos no)))),
      fun yes isMember fit none => refuses _ (empty ?_ none), fun r rest yes isMember fit head => ?_⟩
    · exact (checks yes).trans ((if_neg (not_not.mpr isMember)).trans (if_neg (not_not.mpr fit)))
    · have passed := (checks yes).trans ((if_neg (not_not.mpr isMember)).trans (if_neg (not_not.mpr fit)))
      have accepted := accepts r rest passed head
      have cls : s.judging.platens[p.val].config.classFor q.purpose
          = min s.platens[p.val].config.classes[q.purpose % 8] s.platens[p.val].config.ceiling := PlatenConfig.classFor_eq _ inRange.1
      rw [cls] at accepted
      intro n cls d t
      have filled : q.filled p l cls n s.now = d := q.filled_eq p l cls n s.now
      have state : (s.submission r rest (q.record p l cls s.now)).attempt l = t := by
        rw [s.submission_eq r rest q p l cls]
        exact congrArg (fun d => (({ s with free := rest, counter := n }.modRec r fun _ => d).modLine l fun c =>
          { c with queues := c.queues.set cls.val (c.queues[cls.val] ++ [r]) }).attempt l) filled
      have run := exec_doseSubmit s tag body r rest (q.record p l cls s.now) l _ ho accepted
      have rest' := s.submission_attempt_eq r rest (q.record p l cls s.now) l
      have mine := s.submission_attempt_rec r rest (q.record p l cls s.now) l
      have others := s.submission_attempt_others r rest (q.record p l cls s.now) l head rfl
      have stopped := s.submission_attempt_stopped r rest (q.record p l cls s.now) l rfl
      rw [state] at run rest' mine others stopped
      refine ⟨run, rest', ?_, others, stopped⟩
      rw [← filled]
      exact mine

end Sys2Proof.Machine
end

section
/-! DOSE-RELEASE and DOSE-CANCEL (R70, R74). -/

namespace Sys2Proof.Machine

/-- The one byte of a request that names a record. -/
theorem parseOne_byte (b : Byte) : parseOne [b] = some b.toNat := rfl

theorem parseOne_record (r : RecIx) : parseOne [b1 r.val] = some r.val := by
  rw [parseOne_byte, toNat_b1 (by omega)]

/-- A request that names no record is refused. -/
theorem withRecord_ill (f : RecIx → State → Response × State) (s : State) (b : Byte) (h : 63 < b.toNat) :
    withBody parseOne (withIx 64 f) [b] s = (.refuse .badValue, s) := by
  rw [withBody_some _ _ _ _ _ (parseOne_byte b), withIx_none _ _ _ _ h]

theorem withRecord_record (f : RecIx → State → Response × State) (s : State) (r : RecIx) :
    withBody parseOne (withIx 64 f) [b1 r.val] s = f r s := by
  rw [withBody_some _ _ _ _ _ (parseOne_record r), withIx_val]

theorem handleDoseRelease_record (s : State) (r : RecIx) : handleDoseRelease [b1 r.val] s =
    if s.recs[r.val].state = .held then (.ok (p1 (s.giveBack r).free.length), s.giveBack r) else (.refuse .wrongState, s) :=
  withRecord_record _ s r

theorem handleDoseCancel_record (s : State) (r : RecIx) : handleDoseCancel [b1 r.val] s =
    if r.val < 8 then (.refuse .wrongState, s)
    else if s.recs[r.val].state = .queued ∨ s.recs[r.val].state.live = true then
      (.ok (p1 (s.cancel r).recs[r.val].state.code), s.cancel r)
    else (.refuse .wrongState, s) :=
  withRecord_record _ s r

/-! ### A live dose cancelled -/

theorem DoseState.live_iff_or (d : DoseState) : d.live = true ↔ d = .opening ∨ d = .flowing := by cases d <;> decide

/-- An ending moves the record and, of the lines, a fault timer at most (R97). -/
theorem State.close_moves (s : State) (r : RecIx) (why : DoseReason) (live : s.recs[r.val].state.live = true) : ∃ lines,
    s.close r why = { s with lines := lines }.modRec r (fun d => { d with state := .closing, reason := some why, since := s.now })
      ∧ lines.map Line.admitted = s.lines.map Line.admitted ∧ lines.map Line.reservation = s.lines.map Line.reservation := by
  have same : ∀ i (hi : i < 4), ∃ x, (s.close r why).lines[i] = { s.lines[i] with faultSince := x } := fun i hi => by
    rw [State.close_of_live live]
    exact (s.closingNow r why).settleCheck_line_eq _ ⟨i, hi⟩
  refine ⟨(s.close r why).lines, ?_, Vector.ext fun i hi => ?_, Vector.ext fun i hi => ?_⟩
  · rw [State.close_of_live live]
    unfold State.settleCheck
    split <;> rfl
  · obtain ⟨x, hx⟩ := same i hi
    rw [Vector.getElem_map, Vector.getElem_map, hx]
  · obtain ⟨x, hx⟩ := same i hi
    rw [Vector.getElem_map, Vector.getElem_map, hx]

/-! ### A queued dose cancelled -/

/-- A HELD or FREE record of the tool controller, where its policy sends it (R73). -/
theorem DoseRec.home_of_pool (d : DoseRec) {r : RecIx} (high : 8 ≤ r.val) : d.home r = if d.policy = .hold then .held else .free :=
  if_neg (Nat.not_lt.mpr high)

theorem DoseRec.home_rests (d : DoseRec) {r : RecIx} (high : 8 ≤ r.val) : (d.home r).rests = true := by
  rw [d.home_of_pool high]
  split <;> rfl

/-- A record that has completed and that the telling of heads and attempts have left: in no queue, no admitted set. -/
theorem State.PoolWellKept.out_of_home {s : State} (pool : s.PoolWellKept) {r : RecIx} {d : DoseRec} (e : s.recs[r.val].state = d.home r) :
    (∀ (l : LineIx) (c : ClassIx), r ∉ s.lines[l.val].queues[c.val]) ∧ ∀ l : LineIx, r ∉ s.lines[l.val].admitted := by
  refine ⟨fun l c m => ?_, fun l m => ?_⟩
  · have queued := (pool.of_queued m).1
    rw [e] at queued
    rcases d.home_cases r with ⟨h, -⟩ | ⟨h, -⟩ | ⟨h, -⟩ <;> rw [h] at queued <;> cases queued
  · have admitted := (pool.mem_admitted.mp m).1
    rw [e, (d.home_absent r).1] at admitted
    cases admitted

/-- A QUEUED dose cancelled is out of its queue, and its record where its policy sends it (R70, R73). -/
theorem State.cancel_queued (s : State) (r : RecIx) (high : 8 ≤ r.val) (queued : s.recs[r.val].state = .queued) (pool : s.PoolWellKept) :
    (s.cancel r).recs[r.val] = { s.recs[r.val] with reason := some .cancelled, state := s.recs[r.val].home r, since := s.now }
      ∧ (s.cancel r).free = (if s.recs[r.val].home r = .free then s.free ++ [r] else s.free) ∧ (s.cancel r).PoolWellKept := by
  have settled : ((s.unqueue r .cancelled).settle r).PoolWellKept := s.unqueue_settle_pool r .cancelled (.inl queued) pool
  have record := (s.unqueue r .cancelled).settle_rec r r
  have free := (s.unqueue r .cancelled).settle_free r
  have mine := s.unqueue_rec r r .cancelled
  rw [if_pos rfl] at record mine
  rw [mine] at record free
  have told : ((s.unqueue r .cancelled).settle r).Tends (s.cancel r) := by
    rw [State.cancel, if_pos queued]
    exact ((s.unqueue r .cancelled).poolDone_tends r).trans (State.attempt_tends _ _)
  refine ⟨(told.rests settled r ?_).trans record, told.free.trans free, told.pool settled⟩
  rw [record]
  exact DoseRec.home_rests _ high

/-- The requests as they stand at the open receiver: an answer alone. -/
theorem exec_doseRelease_answers (s : State) (tag : Byte) (body : List Byte) (r : Response) (ho : s.isOpen = true)
    (h : handleDoseRelease body s.judging = (r, s.judging)) : exec (.doseRelease tag body) s = .next (s.replied 0x2B tag r) :=
  congrArg Host.Outcome.next (arrive_answer 0x2B tag body handleDoseRelease s r ho h)

theorem exec_doseCancel_answers (s : State) (tag : Byte) (body : List Byte) (r : Response) (ho : s.isOpen = true)
    (h : handleDoseCancel body s.judging = (r, s.judging)) : exec (.doseCancel tag body) s = .next (s.replied 0x29 tag r) :=
  congrArg Host.Outcome.next (arrive_answer 0x29 tag body handleDoseCancel s r ho h)

/-- An accepted DOSE-CANCEL: the cancellation, and the record's state as its payload. -/
theorem exec_doseCancel (s : State) (tag : Byte) (r : RecIx) (ho : s.isOpen = true) (high : 8 ≤ r.val)
    (h : s.recs[r.val].state = .queued ∨ s.recs[r.val].state.live = true) : exec (.doseCancel tag [b1 r.val]) s =
      .next ((s.judging.cancel r).modLink (·.placeReply
        ⟨replyKind 0x29, tag, (Response.ok (p1 (s.judging.cancel r).recs[r.val].state.code)).body⟩)) := by
  have handled : handleDoseCancel [b1 r.val] s.judging = (.ok (p1 (s.judging.cancel r).recs[r.val].state.code), s.judging.cancel r) := by
    rw [handleDoseCancel_record, if_neg (Nat.not_lt.mpr high)]
    exact if_pos h
  have arrived := arrive_open 0x29 tag [b1 r.val] handleDoseCancel s ho
  rw [handled] at arrived
  exact congrArg Host.Outcome.next arrived

/-- Settles O39: a release is the record given back; a cancelled live dose closes; a cancelled queued one comes home, and neither the
telling of the heads nor the attempt that follows moves a record at rest. -/
theorem doseCancelAndReleaseEndADose : Obligations.DoseCancelAndReleaseEndADose := by
  refine ⟨fun s tag ho => ⟨fun b ill => exec_doseRelease_answers s tag _ _ ho (withRecord_ill _ _ b ill),
      fun r => ⟨fun no => exec_doseRelease_answers s tag _ _ ho ((handleDoseRelease_record _ r).trans (if_neg no)), fun held => ?_⟩⟩,
    fun s tag ho => ⟨fun b ill => exec_doseCancel_answers s tag _ _ ho (withRecord_ill _ _ b ill), fun r => ?_⟩⟩
  · have handled := (handleDoseRelease_record s.judging r).trans (if_pos held)
    have length : (s.judging.giveBack r).free.length = s.free.length + 1 := List.length_append
    rw [length] at handled
    exact congrArg Host.Outcome.next (arrive_effect 0x2B tag _ handleDoseRelease s _ (fun s => s.giveBack r) ho handled rfl rfl)
  · intro d
    refine ⟨fun no => exec_doseCancel_answers s tag _ _ ho ?_, fun high live => ?_, fun high queued pool => ?_⟩
    · rw [handleDoseCancel_record]
      rcases no with low | dead
      · exact if_pos low
      · have rests : ¬ (s.judging.recs[r.val].state = .queued ∨ s.judging.recs[r.val].state.live = true) := fun h =>
          h.elim dead.1 fun live => ((DoseState.live_iff_or _).mp live).elim dead.2.1 dead.2.2
        rw [if_neg rests, ite_self]
    · have living : s.judging.recs[r.val].state.live = true := (DoseState.live_iff_or _).mpr live
      have run := exec_doseCancel s tag r ho high (.inr living)
      obtain ⟨lines, moved, admitted, reservation⟩ := s.judging.close_moves r .cancelled living
      have cancelled : s.judging.cancel r = s.judging.close r .cancelled := if_neg fun e => by
        rw [e] at living
        cases living
      have code : (s.judging.cancel r).recs[r.val].state.code = 5 := by
        rw [cancelled, s.judging.close_get r .cancelled living]
        rfl
      rw [code, cancelled, moved] at run
      exact ⟨lines, run, admitted, reservation⟩
    · obtain ⟨record, free, placed⟩ := s.judging.cancel_queued r high queued (State.judging_pool pool)
      have home := d.home_of_pool high
      have out := (placed.out_of_home (d := d) (by rw [record]; rfl)).1
      refine ⟨_, exec_doseCancel s tag r ho high (.inl queued), ?_⟩
      simp only [State.modLink_recs, State.modLink_free, State.modLink_lines]
      rw [record, free]
      refine ⟨rfl, rfl, fun hold => ?_, fun other => ?_, out⟩
      · rw [if_pos hold] at home
        exact ⟨home, if_neg (by rw [show s.judging.recs[r.val].home r = .held from home]; decide)⟩
      · rw [if_neg other] at home
        exact ⟨home, if_pos home⟩

end Sys2Proof.Machine
end

section
/-! An admitted dose on its way: OPENING, FLOWING segment by segment, the cap (R76, R77, R95, R96). -/

namespace Sys2Proof.Machine

/-! ### The opening -/

theorem State.openingEnds_of_opening {s : State} {r : RecIx} (opening : s.recs[r.val].state = .opening) : s.openingEnds r =
    ((s.reach (s.recs[r.val].since + 300)).modRec r fun d => d.flow (max s.now (s.recs[r.val].since + 300))).tellFlowing r := by
  unfold State.openingEnds
  rw [if_pos opening]
  rfl

/-- A record of the tool controller has no head to tell. -/
theorem ownerOf_pool {r : RecIx} (high : 8 ≤ r.val) : ownerOf r = none := dif_neg (Nat.not_lt.mpr high)

theorem ownerOf_head {r : RecIx} {h : HeadIx} (own : r.val / 2 = h.val) : ownerOf r = some h := by
  have low : r.val < 8 := by omega
  unfold ownerOf
  rw [dif_pos low]
  exact congrArg some (Fin.ext own)

theorem State.tellFlowing_pool (s : State) {r : RecIx} (high : 8 ≤ r.val) : s.tellFlowing r = s := by
  unfold State.tellFlowing
  rw [ownerOf_pool high]

/-- The head that waits for its dose goes to WETTING with it (R9). -/
theorem State.tellFlowing_head {s : State} {r : RecIx} {h : HeadIx} {t : Step} (own : r.val / 2 = h.val) (dose : s.heads[h.val].dose = some r)
    (waits : s.heads[h.val].state = .slurryWait) (step : s.heads[h.val].step = some t) (line : t.line ≠ none) (lead : t.lead ≠ 0) :
    s.tellFlowing r = s.modHead h fun d => { d with state := .wetting, entered := s.now, snapshot := [] } := by
  have wets : ¬ (t.line.isNone = true ∨ t.lead = 0) := by simp [line, lead]
  unfold State.tellFlowing
  rw [ownerOf_head own]
  dsimp only
  rw [if_pos ⟨dose, waits⟩]
  unfold State.enterWetting
  rw [step]
  dsimp only
  rw [if_neg (by simpa using wets)]

/-! ### Metering -/

theorem DoseRec.rate_of_flowing {d : DoseRec} {g : Segment} (flowing : d.state = .flowing) (current : d.currentSegment = some g) :
    d.rate = g.rate := by
  simp [DoseRec.rate, flowing, current]

theorem DoseRec.segmentLeft_eq {d : DoseRec} {g : Segment} (current : d.currentSegment = some g) :
    d.segmentLeft = g.duration.map fun t => t - d.segTime := by
  simp [DoseRec.segmentLeft, current]

theorem DoseRec.capLeft_eq {d : DoseRec} {g : Segment} (flowing : d.state = .flowing) (current : d.currentSegment = some g) :
    d.capLeft = d.cap.bind fun c => if g.rate = 0 then none else some ((c * 6000 - d.acc + g.rate - 1) / g.rate) := by
  unfold DoseRec.capLeft
  rw [DoseRec.rate_of_flowing flowing current]

section metering

variable (s : State) (r : RecIx) (n : Nat)

theorem State.meter_rec (k : RecIx) : (s.meter r n).recs[k.val] = if k = r then s.recs[r.val].meter n else s.recs[k.val] := by
  simp only [State.meter, State.modLine_recs, State.modRec_recs, State.reach_recs, get_set]

/-- A close of a metered dose: its counts stay, its reason and the moment are set (R97). -/
theorem State.meter_close_rec (why : DoseReason) (flowing : s.recs[r.val].state = .flowing) (k : RecIx) :
    ((s.meter r n).close r why).recs[k.val] = if k = r then
        { s.recs[r.val].meter n with state := .closing, reason := some why, since := (s.meter r n).now }
      else s.recs[k.val] := by
  have mine := s.meter_rec r n
  have live : (s.meter r n).recs[r.val].state.live = true := by
    rw [s.meter_flowing, flowing]
    rfl
  rw [State.close_recs, if_pos live, get_set]
  simp only [mine]
  split <;> rfl

end metering

/-- A tick meters one ms, unless the segment or the cap is at its end. -/
theorem State.meterTick_of_room {s : State} {r : RecIx} {g : Segment} (flowing : s.recs[r.val].state = .flowing)
    (current : s.recs[r.val].currentSegment = some g) (segment : ∀ t, g.duration = some t → s.recs[r.val].segTime < t)
    (cap : ∀ c, s.recs[r.val].cap = some c → s.recs[r.val].acc < c * 6000 ∨ g.rate = 0) : s.meterTick r = s.meter r 1 := by
  have inSegment : s.recs[r.val].segmentLeft ≠ some 0 := by
    rw [DoseRec.segmentLeft_eq current]
    intro e
    obtain ⟨t, duration, zero⟩ := Option.map_eq_some_iff.mp e
    have := segment t duration
    omega
  have belowCap : s.recs[r.val].capLeft ≠ some 0 := by
    rw [DoseRec.capLeft_eq flowing current]
    intro e
    obtain ⟨c, hc, zero⟩ := Option.bind_eq_some_iff.mp e
    split at zero
    · cases zero
    · next positive =>
      have room := (cap c hc).resolve_right positive
      have quotient := Option.some.inj zero
      rw [Nat.div_eq_zero_iff] at quotient
      omega
  unfold State.meterTick
  dsimp only
  rw [if_pos ⟨flowing, inSegment, belowCap⟩]

/-- What one metered ms makes of the dose and of its line (R76, R96). -/
theorem State.meter_one {s : State} {r : RecIx} {g : Segment} (flowing : s.recs[r.val].state = .flowing)
    (current : s.recs[r.val].currentSegment = some g) : s.meter r 1 = ((s.reach s.recs[r.val].tickDue).modRec r fun d =>
      { d with
        acc := min 281474976710655 (s.recs[r.val].acc + g.rate), segTime := min 4294967295 (s.recs[r.val].segTime + 1)
        flowTime := min 4294967295 (d.flowTime + 1), tickDue := d.tickDue + 1 }).modLine s.recs[r.val].line fun c =>
      { c with volume := min 281474976710655 (s.lines[s.recs[r.val].line.val].volume + g.rate) } := by
  have rate := DoseRec.rate_of_flowing flowing current
  unfold State.meter State.modLine State.modRec DoseRec.meter holdAt
  simp only [rate, Nat.one_mul, Nat.add_sub_cancel, State.reach_recs, max32, max48]
  rfl

/-! ### The end of a segment without a cap -/

/-- An uncapped dose is metered to the end of its segment, and goes on (R76). -/
theorem State.segmentEnds_uncapped {s : State} {r : RecIx} {g : Segment} {t : Nat} (flowing : s.recs[r.val].state = .flowing)
    (current : s.recs[r.val].currentSegment = some g) (duration : g.duration = some t) (cap : s.recs[r.val].cap = none) :
    s.segmentEnds r = (s.meter r (t - s.recs[r.val].segTime)).nextSegment r := by
  have left : s.recs[r.val].segmentLeft = some (t - s.recs[r.val].segTime) := by
    rw [DoseRec.segmentLeft_eq current, duration]
    rfl
  have uncapped : s.recs[r.val].capLeft = none := by
    rw [DoseRec.capLeft_eq flowing current, cap]
    rfl
  unfold State.segmentEnds
  dsimp only
  rw [flowing, left, uncapped]

/-- The next segment becomes current, or the dose closes with COMPLETE (R76). -/
theorem State.nextSegment_cases (s : State) (r : RecIx) : s.nextSegment r =
    if s.recs[r.val].segment < s.recs[r.val].segments.length then
      s.modRec r fun d => { d with segment := s.recs[r.val].segment + 1, segTime := 0 }
    else s.close r .complete := rfl

/-- Settles O40: the events of a dose on its way, each by its branch. -/
theorem flowingDoseIsMeteredSegmentBySegment : Obligations.FlowingDoseIsMeteredSegmentBySegment := by
  intro s r run d
  have takes : ∀ f : State → State, s.whenRunning f = f s := fun f => State.whenRunning_true s f run
  refine ⟨fun now opening high hnow => ?_, fun h t opening own waits dose step line lead => ?_, fun g flowing current =>
    ⟨fun n k l hn hk hl segment cap => ?_, fun t duration uncapped => ?_⟩⟩
  · subst hnow
    have event : exec (.doseOpeningEnd r) s = .next (s.openingEnds r) := congrArg Host.Outcome.next (takes _)
    rw [event, State.openingEnds_of_opening opening, State.tellFlowing_pool _ high]
    rfl
  · have event : exec (.doseOpeningEnd r) s = .next (s.openingEnds r) := congrArg Host.Outcome.next (takes _)
    have told := State.tellFlowing_head (s := (s.reach (d.since + 300)).modRec r fun e => e.flow (max s.now (d.since + 300)))
      own dose waits step line lead
    rw [event, State.openingEnds_of_opening opening, told]
    refine ⟨_, rfl, ?_⟩
    simp [DoseRec.flow, State.reach]
  · subst hn hk hl
    have event : exec (.doseMeterTick r) s = .next (s.meterTick r) := congrArg Host.Outcome.next (takes _)
    rw [event, State.meterTick_of_room flowing current segment cap, State.meter_one flowing current]
  · have event : exec (.doseSegmentEnd r) s = .next (s.segmentEnds r) := congrArg Host.Outcome.next (takes _)
    have rate := DoseRec.rate_of_flowing flowing current
    have mine := s.meter_rec r (t - d.segTime) r
    rw [if_pos rfl] at mine
    have others : ∀ k : RecIx, k ≠ r → (s.meter r (t - d.segTime)).recs[k.val] = s.recs[k.val] := fun k ne => by
      rw [s.meter_rec, if_neg ne]
    have acc : (d.meter (t - d.segTime)).acc = min 281474976710655 (d.acc + (t - d.segTime) * g.rate) := by
      rw [← rate]
      rfl
    rw [event, State.segmentEnds_uncapped flowing current duration uncapped, State.nextSegment_cases, mine]
    by_cases more : d.segment < d.segments.length
    · refine ⟨_, congrArg Host.Outcome.next (if_pos more), ?_⟩
      rw [State.modRec_get, mine]
      refine ⟨acc, fun _ => ⟨flowing, rfl, rfl⟩, fun last => absurd more (Nat.not_lt.mpr last), fun k ne => ?_, rfl, rfl⟩
      rw [State.modRec_get_ne _ _ _ _ ne, others k ne]
    · have closed := s.meter_close_rec r (t - d.segTime) .complete flowing
      have keeps := (s.meter r (t - d.segTime)).close_keeps r .complete
      refine ⟨_, congrArg Host.Outcome.next (if_neg more), ?_⟩
      rw [closed, if_pos rfl]
      refine ⟨acc, fun next => absurd next more, fun _ => ⟨rfl, rfl, keeps.now.symm⟩, fun k ne => ?_, keeps.sameHeads, keeps.free⟩
      rw [closed, if_neg ne]

end Sys2Proof.Machine
end

section
/-! The cap (R77) and the end of CLOSING (R72, R97, R100, R101). -/

namespace Sys2Proof.Machine

/-! ### The cap moment -/

/-- The first whole ms at the end of which the accumulator is at or above the cap (R77). -/
theorem DoseRec.capLeft_of_first {d : DoseRec} {g : Segment} {c k : Nat} (flowing : d.state = .flowing) (current : d.currentSegment = some g)
    (cap : d.cap = some c) (positive : 0 < g.rate) (reached : c * 6000 ≤ d.acc + k * g.rate)
    (first : ∀ j, j < k → d.acc + j * g.rate < c * 6000) : d.capLeft = some k := by
  rw [DoseRec.capLeft_eq flowing current, cap, Option.bind_some, if_neg (Nat.ne_of_gt positive)]
  congr 1
  refine Nat.div_eq_of_lt_le ?_ ?_
  · cases k with
    | zero => simp
    | succ j =>
      have before := first j (Nat.lt_succ_self j)
      have product : (j + 1) * g.rate = j * g.rate + g.rate := by ring
      omega
  · have product : (k + 1) * g.rate = k * g.rate + g.rate := by ring
    omega

/-- At the cap moment the delivered volume does not pass the cap (R77, R78). -/
theorem delivered_le_cap {acc c k rate : Nat} (start : acc ≤ c * 6000) (slow : rate ≤ 600)
    (first : ∀ j, j < k → acc + j * rate < c * 6000) : (acc + k * rate) / 6000 ≤ c := by
  refine Nat.le_of_lt_succ ((Nat.div_lt_iff_lt_mul (by decide)).mpr ?_)
  cases k with
  | zero => omega
  | succ j =>
    have before := first j (Nat.lt_succ_self j)
    have product : (j + 1) * rate = j * rate + rate := by ring
    omega

section cap

variable {s : State} {r : RecIx} {g : Segment} {k : Nat}

/-- The cap event closes the dose at its moment, and so does the end of the segment in which the moment falls. -/
theorem State.capReached_of_left (flowing : s.recs[r.val].state = .flowing) (current : s.recs[r.val].currentSegment = some g)
    (left : s.recs[r.val].capLeft = some k) (within : ∀ t, g.duration = some t → k ≤ t - s.recs[r.val].segTime) :
    s.capReached r = (s.meter r k).close r .capped := by
  unfold State.capReached
  dsimp only
  rw [flowing, left, DoseRec.segmentLeft_eq current]
  cases duration : g.duration with
  | none => rfl
  | some t => exact if_pos (within t duration)

theorem State.segmentEnds_of_left {t : Nat} (flowing : s.recs[r.val].state = .flowing) (current : s.recs[r.val].currentSegment = some g)
    (left : s.recs[r.val].capLeft = some k) (duration : g.duration = some t) (within : k ≤ t - s.recs[r.val].segTime) :
    s.segmentEnds r = (s.meter r k).close r .capped := by
  unfold State.segmentEnds
  dsimp only
  rw [flowing, left, DoseRec.segmentLeft_eq current, duration]
  exact if_pos within

end cap

/-! ### What the end of CLOSING leaves of the records at rest -/

/-- Places are kept; records at rest, the free list and the notices that wait stay. -/
structure State.HoldsRest (s t : State) : Prop where
  pool : s.PoolWellKept → t.PoolWellKept
  free : t.free = s.free
  rests : s.PoolWellKept → ∀ r : RecIx, s.recs[r.val].state.rests = true → t.recs[r.val] = s.recs[r.val]
  link : s.link.Grows t.link

theorem State.HoldsRest.refl (s : State) : s.HoldsRest s := ⟨id, rfl, fun _ _ _ => rfl, .refl _⟩

theorem State.HoldsRest.trans {a b c : State} (h : a.HoldsRest b) (k : b.HoldsRest c) : a.HoldsRest c where
  pool x := k.pool (h.pool x)
  free := k.free.trans h.free
  rests x r hr := (k.rests (h.pool x) r (by rw [h.rests x r hr]; exact hr)).trans (h.rests x r hr)
  link := h.link.trans k.link

theorem State.Tends.holdsRest {s t : State} (k : s.Tends t) : s.HoldsRest t := ⟨k.pool, k.free, k.rests, k.link⟩

section goesOn

variable (s : State) (l : LineIx)

/-- The end of a teardown: the line OFFLINE, and its notice (R101). -/
def State.wentOffline : State :=
  (s.modLine l fun c => { c with state := .offline }).post
    (.lineOffline l s.lines[l.val].tornCount s.lines[l.val].tornVolume s.lines[l.val].before)

theorem State.lineGoesOn_cases : s.lineGoesOn l
    = if s.lines[l.val].state = .teardown ∧ s.lines[l.val].admitted = [] then s.wentOffline l else s.attempt l := by
  unfold State.lineGoesOn
  split
  · next h =>
    unfold State.finishTeardown
    exact if_pos h
  · rfl

theorem State.wentOffline_pool (pool : s.PoolWellKept) : (s.wentOffline l).PoolWellKept :=
  (State.post_tends _ _).pool (s.modLine_pool l (fun c => { c with state := .offline }) ⟨rfl, rfl⟩ pool)

theorem State.lineGoesOn_holdsRest : s.HoldsRest (s.lineGoesOn l) := by
  rw [State.lineGoesOn_cases]
  split
  · exact ⟨s.wentOffline_pool l, rfl, fun _ _ _ => rfl, s.link.post_grows _⟩
  · exact (s.attempt_tends l).holdsRest

/-- A line that goes on opens queued doses alone. -/
theorem State.lineGoesOn_opensInPlace : s.OpensInPlace (s.lineGoesOn l) := by
  rw [State.lineGoesOn_cases]
  split
  · exact ⟨rfl, s.wentOffline_pool l, fun _ => Opened.refl _ _⟩
  · exact s.attempt_opensInPlace l

theorem State.lineGoesOn_keepsPool : s.KeepsPool (s.lineGoesOn l) := by
  unfold State.lineGoesOn
  split
  · exact s.finishTeardown_keepsPool l
  · exact (s.attempt_keeps l).toKeepsPool

theorem State.lineGoesOn_heads : (s.lineGoesOn l).heads = s.heads := by
  unfold State.lineGoesOn
  split
  · exact s.finishTeardown_heads l
  · exact s.attempt_heads l

end goesOn

/-! ### The round after the end of CLOSING -/

/-- A loop of attempts over chosen lines, as a round makes it. -/
theorem forEach_asked_rel {R : State → State → Prop} (refl : ∀ s, R s s) (trans : ∀ {a b c}, R a b → R b c → R a c)
    (asked : State → LineIx → Bool) (xs : List LineIx) (step : ∀ s k, asked s k = true → R s (s.attempt k)) (s : State) :
    R s (forEach xs (fun l s => if asked s l then s.attempt l else s) s) :=
  forEach_rel refl trans xs _ (fun l s => by
    split
    · next h => exact step s l h
    · exact refl s) s

/-- A round leaves a line that it does not ask. -/
theorem State.round_line_unasked (s : State) (p : PlatenIx) (asked : State → LineIx → Bool) (l : LineIx) (never : ∀ t, asked t l = false) :
    (s.round p asked).lines[l.val] = s.lines[l.val] :=
  forEach_asked_rel (R := fun s t => t.lines[l.val] = s.lines[l.val]) (fun _ => rfl) (fun h k => k.trans h) asked _
    (fun s k h => s.attempt_only k l fun e => by rw [← e, never] at h; cases h) s

/-- A round that passes by an exhausted line leaves it so. -/
theorem State.round_exhausted_unasked (s : State) (p : PlatenIx) (asked : State → LineIx → Bool) (l : LineIx)
    (never : ∀ t, asked t l = false) (h : s.Exhausted l) : (s.round p asked).Exhausted l :=
  forEach_asked_rel (R := fun s t => s.Exhausted l → t.Exhausted l) (fun _ => id) (fun h k x => k (h x)) asked _
    (fun s k h x => x.attempt fun e => by rw [← e, never] at h; cases h) s h

/-- Attempts of other lines leave an exhausted line so. -/
theorem forEach_asked_exhausted (asked : State → LineIx → Bool) (l : LineIx) (xs : List LineIx) (out : l ∉ xs) (t : State)
    (h : t.Exhausted l) : (forEach xs (fun l s => if asked s l then s.attempt l else s) t).Exhausted l := by
  induction xs generalizing t with
  | nil => exact h
  | cons k ks ih =>
    obtain ⟨ne, out⟩ := List.ne_and_not_mem_of_not_mem_cons out
    rw [forEach_cons]
    refine ih out _ ?_
    split
    · exact h.attempt ne
    · exact h

/-- A round leaves a line in service exhausted that it asks at whatever point of the round its turn comes. -/
theorem State.round_exhausts_asked (s : State) (p : PlatenIx) (asked : State → LineIx → Bool) (l : LineIx) (hs : s.stop = false)
    (hl : s.lines[l.val].state = .ready ∨ s.lines[l.val].state = .priming) (hw : ∀ c : ClassIx, 0 < s.lines[l.val].config.weights[c.val])
    (always : ∀ t : State, s.OpensInPlace t → t.OpensInPlace (s.round p asked) → asked t l = true) : (s.round p asked).Exhausted l := by
  have opens : ∀ (xs : List LineIx) (t : State), t.OpensInPlace (forEach xs (fun l s => if asked s l then s.attempt l else s) t) := fun xs t =>
    forEach_asked_rel .refl .trans asked xs (fun s k _ => s.attempt_opensInPlace k) t
  obtain ⟨before, after, e, last⟩ := round_split s.platens[p.val].nextLine l
  unfold State.round at always ⊢
  dsimp only at always ⊢
  rw [e, forEach_append, forEach_cons] at always ⊢
  have keeps := forEach_asked_rel State.KeepsAllButLines.refl State.KeepsAllButLines.trans asked before (fun s k _ => s.attempt_keeps k) s
  have serves := forEach_asked_rel State.ServesOn.refl State.ServesOn.trans asked before (fun s k _ => s.attempt_servesOn k) s
  have first := opens before s
  generalize forEach before (fun l s => if asked s l then s.attempt l else s) s = t at *
  have turn : t.OpensInPlace (if asked t l = true then t.attempt l else t) := opens [l] t
  refine forEach_asked_exhausted asked l after last _ ?_
  rw [if_pos (always t first (turn.trans (opens after _)))]
  exact State.attempt_exhausts t l (keeps.stop.trans hs) (serves.inService hl) fun c => by rw [keeps.lineConfig l]; exact hw c

end Sys2Proof.Machine
end

section
/-! The end of CLOSING as a whole (R72, R97, R100, R101). -/

namespace Sys2Proof.Machine

/-! ### The pool tells no head -/

/-- With no head in ARMED no snapshot is looked at (R72). -/
theorem forEach_clearSnapshot_quiet (r : RecIx) (hs : List HeadIx) (s : State) (quiet : ∀ k : HeadIx, s.heads[k.val].state ≠ .armed) :
    forEach hs (fun h s => s.clearSnapshot r h) s = s := by
  induction hs with
  | nil => rfl
  | cons h hs ih =>
    have skip : s.clearSnapshot r h = s := if_neg fun e => quiet h e.1
    rw [forEach_cons, skip]
    exact ih

/-- A head that does not wait for a record is told nothing of it (R8). -/
theorem State.tellIdle_quiet (s : State) (r : RecIx)
    (quiet : ∀ h : HeadIx, r.val / 2 = h.val → s.heads[h.val].state ≠ .slurryWait ∨ s.heads[h.val].dose ≠ none) : s.tellIdle r = s := by
  unfold State.tellIdle
  split
  · rfl
  · next h own =>
    have place : r.val / 2 = h.val := by
      unfold ownerOf at own
      split at own
      · exact congrArg Fin.val (Option.some.inj own)
      · cases own
    refine if_neg fun waits => ?_
    rcases quiet h place with e | e
    · exact e waits.2
    · exact e waits.1

/-- A completion that no head acts on. -/
theorem State.poolDone_quiet (s : State) (r : RecIx) (armed : ∀ k : HeadIx, s.heads[k.val].state ≠ .armed)
    (waits : ∀ h : HeadIx, r.val / 2 = h.val → s.heads[h.val].state ≠ .slurryWait ∨ s.heads[h.val].dose ≠ none) :
    s.poolDone r = s.settle r := by
  rw [State.poolDone_eq]
  split
  · exact State.tellIdle_quiet _ r fun h own => by rw [State.settle_heads]; exact waits h own
  · exact forEach_clearSnapshot_quiet r allHeads _ fun k => by rw [State.settle_heads]; exact armed k

/-! ### Work that leaves the admitted doses -/

/-- Places are kept, and no admitted dose is touched. -/
def State.HoldsAdmitted (s t : State) : Prop :=
  s.PoolWellKept → t.PoolWellKept ∧ ∀ k : RecIx, s.recs[k.val].state.admitted = true → t.recs[k.val] = s.recs[k.val]

theorem State.HoldsAdmitted.refl (s : State) : s.HoldsAdmitted s := fun pool => ⟨pool, fun _ _ => rfl⟩

theorem State.HoldsAdmitted.trans {a b c : State} (h : a.HoldsAdmitted b) (k : b.HoldsAdmitted c) : a.HoldsAdmitted c := fun pool => by
  obtain ⟨poolB, sameB⟩ := h pool
  obtain ⟨poolC, sameC⟩ := k poolB
  exact ⟨poolC, fun x hx => (sameC x (by rw [sameB x hx]; exact hx)).trans (sameB x hx)⟩

theorem State.OpensInPlace.holdsAdmitted {s t : State} (k : s.OpensInPlace t) : s.HoldsAdmitted t := fun pool => by
  refine ⟨k.pool pool, fun x hx => (k.opens pool x).resolve_right fun ⟨queued, _⟩ => ?_⟩
  rw [queued] at hx
  cases hx

/-- A head without a dose that submits, or fails to, touches no admitted dose (R8). -/
theorem State.submitHead_holdsAdmitted (s : State) (h : HeadIx) (dose : s.heads[h.val].dose = none) : s.HoldsAdmitted (s.submitHead h) := by
  obtain e | e | ⟨t, r, l, idle, e⟩ := s.submitHead_cases h <;> rw [e]
  · exact .refl s
  · refine fun pool => ⟨(s.haltHead_tends h _ _ _).pool pool, fun k hk => ?_⟩
    refine (s.haltHead_rec h _ _ _ k pool (by rw [dose]; nofun)).resolve_right fun ⟨queued, _⟩ => ?_
    rw [queued] at hk
    cases hk
  · refine State.HoldsAdmitted.trans (fun pool => ⟨(s.submits_tends h t r l idle).pool pool, fun k hk => ?_⟩)
      (State.attempt_opensInPlace _ l).holdsAdmitted
    rw [State.submits_rec, if_neg]
    rintro rfl
    rw [(State.idleRecord_some idle).1] at hk
    cases hk

/-- With no head in ARMED, a completion touches no admitted dose but its own. -/
theorem State.poolDone_holdsAdmitted (s : State) (r : RecIx) (armed : ∀ k : HeadIx, s.heads[k.val].state ≠ .armed) :
    (s.settle r).HoldsAdmitted (s.poolDone r) := by
  rw [State.poolDone_eq]
  split
  · unfold State.tellIdle
    split
    · exact .refl _
    · split
      · next h _ waits => exact State.submitHead_holdsAdmitted _ h waits.1
      · exact .refl _
  · rw [forEach_clearSnapshot_quiet r allHeads _ fun k => by rw [State.settle_heads]; exact armed k]
    exact .refl _

/-! ### The end of CLOSING -/

section closing

variable {s : State} {r : RecIx} {p : PlatenIx} (closing : s.recs[r.val].state = .closing) (platen : s.recs[r.val].platen = some p)

include platen in
/-- The records at rest after the completion, its own among them, stay to the end. -/
theorem State.closingEnd_holdsRest : ((s.leaveLine r p).settle r).HoldsRest (s.closingEnd r) := by
  rw [State.closingEnd_eq platen]
  exact (((s.leaveLine r p).poolDone_tends r).holdsRest.trans (State.lineGoesOn_holdsRest _ _)).trans (State.round_tends _ p _).holdsRest

include platen in
/-- The line of the record is as it went on: the round does not ask it. -/
theorem State.closingEnd_ownLine : (s.closingEnd r).lines[s.recs[r.val].line.val]
    = (((s.leaveLine r p).poolDone r).lineGoesOn s.recs[r.val].line).lines[s.recs[r.val].line.val] := by
  rw [State.closingEnd_eq platen]
  exact State.round_line_unasked _ p _ _ fun t => by simp

include closing platen in
/-- A record of the tool controller comes home (R72, R73). -/
theorem State.closingEnd_record (high : 8 ≤ r.val) (pool : s.PoolWellKept) :
    (s.closingEnd r).recs[r.val] = { s.recs[r.val] with state := s.recs[r.val].home r, since := s.now }
      ∧ (s.closingEnd r).free = (if s.recs[r.val].home r = .free then s.free ++ [r] else s.free) ∧ (s.closingEnd r).PoolWellKept := by
  have settled := s.leaveLine_settle_pool r p closing pool
  have record := s.leaveLine_settle_rec r p r
  rw [if_pos rfl] at record
  have free := (s.leaveLine r p).settle_free r
  have holds := State.closingEnd_holdsRest platen
  refine ⟨(holds.rests settled r ?_).trans record, holds.free.trans free, holds.pool settled⟩
  rw [record]
  exact DoseRec.home_rests _ high

include platen in
/-- The notice of a completed dose is the first that the end of CLOSING posts (R73). -/
theorem State.closingEnd_notice (high : 8 ≤ r.val) (notify : s.recs[r.val].policy = .notify) (busy : s.link.tx.isSome = true)
    (room : s.link.notices.length < 32) : ∃ more, (s.closingEnd r).link.notices = s.link.notices ++ s.doseEndOf r :: more := by
  have posted : ((s.leaveLine r p).settle r).link = s.link.post (s.doseEndOf r) := by
    rw [State.settle_link]
    exact if_pos ⟨high, notify⟩
  rw [s.link.post_of_sending _ busy room] at posted
  obtain ⟨-, more, e⟩ := (State.closingEnd_holdsRest platen).link (by rw [posted]; exact busy)
  exact ⟨more, by rw [e, posted, List.append_assoc]; rfl⟩

/-! #### The line of the record -/

/-- The line after the completion, in the state it was in or in service by an admission. -/
theorem State.leaveLine_poolDone_serves : s.ServesOn ((s.leaveLine r p).poolDone r) := by
  refine State.ServesOn.trans (fun l => .inl ?_) ((s.leaveLine r p).poolDone_tends r).serves
  rw [State.settle_lines, State.leaveLine_line]
  split <;> rfl

theorem State.leaveLine_poolDone_keeps : s.Keeps ((s.leaveLine r p).poolDone r) := by
  refine State.Keeps.trans ?_ (State.poolDone_keeps _ r)
  unfold State.leaveLine
  refine ((State.modLine_keeps s s.recs[r.val].line _ ?_).trans (State.modPlaten_keeps _ p _ ?_)).toKeeps
  · rfl
  · exact ⟨rfl, rfl⟩

/-- A line in TEARDOWN after the completion: the dose has left it, counted where it was torn down (R100, R101). -/
theorem State.leaveLine_poolDone_torn (torn : s.lines[s.recs[r.val].line.val].state = .teardown) :
    let c := s.lines[s.recs[r.val].line.val]
    let w := ((s.leaveLine r p).poolDone r).lines[s.recs[r.val].line.val]
    w.state = .teardown ∧ w.admitted = c.admitted.erase r ∧ w.before = c.before
      ∧ w.tornCount = (if s.recs[r.val].reason = some .tornDown then c.tornCount + 1 else c.tornCount)
      ∧ w.tornVolume = if s.recs[r.val].reason = some .tornDown then min 4294967295 (c.tornVolume + s.recs[r.val].delivered) else c.tornVolume := by
  intro c w
  have left := s.leaveLine_line r p s.recs[r.val].line
  rw [if_pos rfl] at left
  simp only [torn, true_and] at left
  have kept := ((s.leaveLine r p).poolDone_tends r).torn s.recs[r.val].line (by rw [State.settle_lines, left])
  rw [State.settle_lines, left] at kept
  exact ⟨kept.state, kept.admitted, kept.before, kept.tornCount, kept.tornVolume⟩

/-- The line a teardown leaves: OFFLINE at its last completion, else in TEARDOWN, with its figures (R101). -/
theorem State.closingEnd_torn (platen : s.recs[r.val].platen = some p) (pool : s.PoolWellKept) (closing : s.recs[r.val].state = .closing)
    (torn : s.lines[s.recs[r.val].line.val].state = .teardown) :
    let c := s.lines[s.recs[r.val].line.val]
    let u := (s.closingEnd r).lines[s.recs[r.val].line.val]
    u.tornCount = (if s.recs[r.val].reason = some .tornDown then c.tornCount + 1 else c.tornCount)
      ∧ u.tornVolume = (if s.recs[r.val].reason = some .tornDown then min 4294967295 (c.tornVolume + s.recs[r.val].delivered)
        else c.tornVolume)
      ∧ u.state = if c.admitted = [r] then .offline else .teardown := by
  intro c u
  obtain ⟨state, admitted, -, count, volume⟩ := State.leaveLine_poolDone_torn (p := p) torn
  have mem : r ∈ c.admitted := pool.mem_admitted.mpr ⟨by rw [closing]; rfl, rfl⟩
  have last : c.admitted.erase r = [] ↔ c.admitted = [r] := by
    rw [List.erase_eq_nil_iff]
    exact ⟨fun h => h.resolve_left (List.ne_nil_of_mem mem), .inr⟩
  have own : u = _ := State.closingEnd_ownLine platen
  rw [own, State.lineGoesOn_cases, state, admitted]
  by_cases one : c.admitted = [r]
  · rw [if_pos ⟨rfl, last.mpr one⟩, if_pos one]
    simp only [State.wentOffline, State.post_lines, State.modLine_get]
    exact ⟨count, volume, trivial⟩
  · rw [if_neg fun h => one (last.mp h.2), if_neg one]
    have kept := (State.attempt_tends ((s.leaveLine r p).poolDone r) s.recs[r.val].line).torn _ state
    exact ⟨kept.tornCount.trans count, kept.tornVolume.trans volume, kept.state.trans state⟩

/-- Two notices posted while the transmitter is busy stand in their order. -/
theorem Link.post_post (k : Link) (a b : Notice) (busy : k.tx.isSome = true) (room : k.notices.length + 2 ≤ 32) :
    ((k.post a).post b).notices = k.notices ++ [a] ++ [b] := by
  have first := k.post_of_sending a busy (by omega)
  have second : (k.notices ++ [a]).length < 32 := by rw [List.length_append, List.length_singleton]; omega
  rw [first, Link.post_of_sending { k with notices := k.notices ++ [a] } b busy second]

/-- The notices of the last completion of a teardown that no head acts on (R73, R101). -/
theorem State.closingEnd_offline_notices (platen : s.recs[r.val].platen = some p)
    (torn : s.lines[s.recs[r.val].line.val].state = .teardown) (one : s.lines[s.recs[r.val].line.val].admitted = [r])
    (quiet : ∀ k : HeadIx, s.heads[k.val].state ≠ .armed ∧ s.heads[k.val].state ≠ .slurryWait) (busy : s.link.tx.isSome = true)
    (room : s.link.notices.length + 2 ≤ 32) :
    let w := ((s.leaveLine r p).poolDone r).lines[s.recs[r.val].line.val]
    (s.closingEnd r).link.notices = s.link.notices
      ++ (if 8 ≤ r.val ∧ s.recs[r.val].policy = .notify then [s.doseEndOf r] else [])
      ++ [.lineOffline s.recs[r.val].line w.tornCount w.tornVolume w.before] := by
  intro w
  obtain ⟨state, admitted, -, -⟩ := State.leaveLine_poolDone_torn (p := p) torn
  rw [one, List.erase_cons_head] at admitted
  have done : (s.leaveLine r p).poolDone r = (s.leaveLine r p).settle r :=
    State.poolDone_quiet _ r (fun k => (quiet k).1) fun h _ => .inl (quiet h).2
  have link : ((s.leaveLine r p).poolDone r).link
      = if 8 ≤ r.val ∧ s.recs[r.val].policy = .notify then s.link.post (s.doseEndOf r) else s.link := by
    rw [done]
    exact (s.leaveLine r p).settle_link r
  rw [State.closingEnd_eq platen, (State.round_keeps _ p _).link, State.lineGoesOn_cases, if_pos ⟨state, admitted⟩]
  show (((s.leaveLine r p).poolDone r).link.post (.lineOffline s.recs[r.val].line w.tornCount w.tornVolume w.before)).notices = _
  generalize Notice.lineOffline s.recs[r.val].line w.tornCount w.tornVolume w.before = n
  rw [link]
  split
  · next =>
    exact s.link.post_post _ n busy room
  · next =>
    rw [List.append_nil, s.link.post_of_sending n busy (by omega)]

/-! #### Lines that have nothing more to open -/

theorem State.lineGoesOn_other (s : State) (l k : LineIx) (ne : k ≠ l) : (s.lineGoesOn l).lines[k.val] = s.lines[k.val] := by
  rw [State.lineGoesOn_cases]
  split
  · exact s.modLine_get_ne l (fun c => { c with state := .offline }) k ne
  · exact s.attempt_only l k ne

/-- The record's own line has made an attempt, and the round leaves it. -/
theorem State.closingEnd_exhausts_own (platen : s.recs[r.val].platen = some p) (released : s.stop = false)
    (service : s.lines[s.recs[r.val].line.val].state = .ready ∨ s.lines[s.recs[r.val].line.val].state = .priming)
    (weights : ∀ c : ClassIx, 0 < s.lines[s.recs[r.val].line.val].config.weights[c.val]) :
    (s.closingEnd r).Exhausted s.recs[r.val].line := by
  have keeps := State.leaveLine_poolDone_keeps (s := s) (r := r) (p := p)
  have serves := (State.leaveLine_poolDone_serves (s := s) (r := r) (p := p)).inService service
  rw [State.closingEnd_eq platen, State.lineGoesOn_cases]
  generalize (s.leaveLine r p).poolDone r = w at *
  rw [if_neg fun h => by rcases serves with e | e <;> rw [e] at h <;> cases h.1]
  refine State.round_exhausted_unasked _ p _ _ (fun t => by simp) ?_
  exact State.attempt_exhausts w _ (keeps.stop.trans released) serves fun c => by rw [keeps.lineConfig]; exact weights c

/-- Another line that holds a queued dose for the platen is asked by the round. -/
theorem State.closingEnd_exhausts_other (platen : s.recs[r.val].platen = some p) (closing : s.recs[r.val].state = .closing)
    (pool : s.PoolWellKept) (released : s.stop = false) (k : LineIx) (ne : k ≠ s.recs[r.val].line)
    (service : s.lines[k.val].state = .ready ∨ s.lines[k.val].state = .priming)
    (weights : ∀ c : ClassIx, 0 < s.lines[k.val].config.weights[c.val]) (x : RecIx)
    (queued : (s.closingEnd r).recs[x.val].state = .queued) (line : (s.closingEnd r).recs[x.val].line = k)
    (toward : (s.closingEnd r).recs[x.val].platen = some p) : (s.closingEnd r).Exhausted k := by
  have keeps := State.leaveLine_poolDone_keeps (s := s) (r := r) (p := p)
  have serves := (State.leaveLine_poolDone_serves (s := s) (r := r) (p := p)).inService service
  have placed := ((s.leaveLine r p).poolDone_tends r).pool (s.leaveLine_settle_pool r p closing pool)
  rw [State.closingEnd_eq platen] at queued line toward ⊢
  generalize (s.leaveLine r p).poolDone r = w at *
  have on := w.lineGoesOn_keepsPool s.recs[r.val].line
  have same := w.lineGoesOn_other s.recs[r.val].line k ne
  have placed' := (w.lineGoesOn_opensInPlace s.recs[r.val].line).pool placed
  generalize w.lineGoesOn s.recs[r.val].line = y at *
  refine State.round_exhausts_asked y p _ k (on.stop.trans (keeps.stop.trans released)) (by rw [same]; exact serves)
    (fun c => by rw [same, keeps.lineConfig]; exact weights c) fun t before after => ?_
  have placed'' := before.pool placed'
  have waits := (after.opens placed'' x).resolve_right fun ⟨_, e⟩ => by rw [e] at queued; cases queued
  rw [waits] at queued line toward
  have mem := ((placed''.1 x).2.2.2.1 k t.recs[x.val].cls).mpr ⟨queued, line, rfl⟩
  simp only [Bool.and_eq_true, bne_iff_ne]
  exact ⟨ne, (t.holdsFor_iff k p).mpr ⟨_, x, mem, toward⟩⟩

/-! #### The heads and the other doses -/

/-- Where no head acts on the completion, the end of CLOSING moves no head, and a head record is IDLE. -/
theorem State.closingEnd_quiet (platen : s.recs[r.val].platen = some p) (closing : s.recs[r.val].state = .closing) (pool : s.PoolWellKept)
    (low : r.val < 8) (armed : ∀ k : HeadIx, s.heads[k.val].state ≠ .armed)
    (waits : ∀ h : HeadIx, r.val / 2 = h.val → s.heads[h.val].state ≠ .slurryWait ∨ s.heads[h.val].dose ≠ none) :
    (s.closingEnd r).recs[r.val].state = .idle ∧ (s.closingEnd r).heads = s.heads := by
  have done : (s.leaveLine r p).poolDone r = (s.leaveLine r p).settle r := State.poolDone_quiet _ r armed waits
  have placed := s.leaveLine_settle_pool r p closing pool
  have record := s.leaveLine_settle_rec r p r
  rw [if_pos rfl] at record
  have idle : ((s.leaveLine r p).settle r).recs[r.val].state = .idle := by
    rw [record]
    exact if_pos low
  have opens := (State.lineGoesOn_opensInPlace ((s.leaveLine r p).settle r) s.recs[r.val].line).trans
    (State.round_opensInPlace _ p fun t k => k != s.recs[r.val].line && t.holdsFor k p)
  rw [State.closingEnd_eq platen, done]
  refine ⟨?_, ?_⟩
  · rw [(opens.opens placed r).resolve_right fun ⟨queued, _⟩ => by rw [idle] at queued; cases queued]
    exact idle
  · rw [(State.round_keeps _ p _).sameHeads, State.lineGoesOn_heads, State.settle_heads]
    rfl

/-- With no head in ARMED the end of CLOSING touches no other admitted dose. -/
theorem State.closingEnd_others (platen : s.recs[r.val].platen = some p) (closing : s.recs[r.val].state = .closing) (pool : s.PoolWellKept)
    (armed : ∀ k : HeadIx, s.heads[k.val].state ≠ .armed) (k : RecIx) (ne : k ≠ r) (admitted : s.recs[k.val].state.admitted = true) :
    (s.closingEnd r).recs[k.val] = s.recs[k.val] := by
  have placed := s.leaveLine_settle_pool r p closing pool
  have record := s.leaveLine_settle_rec r p k
  rw [if_neg ne] at record
  have holds := ((State.poolDone_holdsAdmitted (s.leaveLine r p) r armed).trans
    (State.lineGoesOn_opensInPlace _ s.recs[r.val].line).holdsAdmitted).trans
    (State.round_opensInPlace _ p fun t k => k != s.recs[r.val].line && t.holdsFor k p).holdsAdmitted
  rw [State.closingEnd_eq platen, (holds placed).2 k (by rw [record]; exact admitted), record]

end closing

/-- Settles O41: the cap moment is the first ms the quotient gives; the end of CLOSING is the completion, the line that goes on, and the
round over the other lines. -/
theorem capAndClosingEndTheDose : Obligations.CapAndClosingEndTheDose := by
  refine ⟨?_, fun s r run pool closing => ?_⟩
  · intro s r g c k run d flowing current cap positive reached first within small
    have takes : ∀ f : State → State, s.whenRunning f = f s := fun f => State.whenRunning_true s f run
    have left := DoseRec.capLeft_of_first flowing current cap positive reached first
    have rate := DoseRec.rate_of_flowing flowing current
    have record := s.meter_close_rec r k .capped flowing r
    rw [if_pos rfl] at record
    have acc : (d.meter k).acc = d.acc + k * g.rate := by
      rw [← rate] at small ⊢
      exact Nat.min_eq_right small
    refine ⟨_, congrArg Host.Outcome.next ((takes _).trans (State.capReached_of_left flowing current left within)), ?_⟩
    refine ⟨by rw [record], by rw [record], by rw [record]; exact acc, by rw [record]; rfl, fun start slow low => ?_, fun t duration => ?_⟩
    · rw [record]
      refine (Nat.min_le_right _ _).trans ?_
      dsimp only
      rw [acc]
      exact delivered_le_cap start slow first
    · exact congrArg Host.Outcome.next ((takes _).trans (State.segmentEnds_of_left flowing current left duration (within t duration)))
  · intro d delivered told
    obtain ⟨p, platen⟩ := Option.isSome_iff_exists.mp ((pool.1 r).2.2.2.2.2 (by rw [closing]; rfl))
    have event : exec (.doseClosingEnd r) s = .next ((s.reach (d.since + 200)).closingEnd r) :=
      congrArg Host.Outcome.next ((State.whenRunning_true s _ run).trans (if_pos closing))
    have placed : (s.reach (d.since + 200)).PoolWellKept := (State.Tends.of_parts rfl (fun _ _ => id) (.refl _)).pool pool
    have now := ((s.reach (d.since + 200)).closingEnd_keeps r).now
    refine ⟨_, event, now, fun high => ?_, fun released k service weights asks => ?_, ?_, fun h own waits armed => ?_,
      fun armed k ne admitted => ?_⟩
    · obtain ⟨record, free, after⟩ := State.closingEnd_record (s := s.reach (d.since + 200)) closing platen high placed
      have out := (after.out_of_home (d := d) (by rw [record]; rfl)).2 d.line
      have home := d.home_of_pool high
      have notice := State.closingEnd_notice (s := s.reach (d.since + 200)) platen high
      rw [record, free]
      refine ⟨rfl, rfl, out, fun hold => ?_, fun other => ?_, notice⟩
      · rw [if_pos hold] at home
        exact ⟨home, if_neg fun e => by rw [show d.home r = .free from e] at home; cases home⟩
      · rw [if_neg other] at home
        exact ⟨home, if_pos home⟩
    · by_cases own : k = d.line
      · subst own
        exact State.closingEnd_exhausts_own (s := s.reach (d.since + 200)) platen released service weights
      · obtain ⟨x, queued, line, toward⟩ := asks.resolve_left own
        exact State.closingEnd_exhausts_other (s := s.reach (d.since + 200)) platen closing placed released k own service weights x queued line
          (toward.trans platen)
    · intro c torn count volume teardown
      obtain ⟨counted, measured, state⟩ := State.closingEnd_torn (s := s.reach (d.since + 200)) platen placed closing teardown
      refine ⟨counted, measured, state, fun one quiet busy room => ?_⟩
      have notices := State.closingEnd_offline_notices (s := s.reach (d.since + 200)) platen teardown one quiet busy room
      obtain ⟨-, -, before, counted, measured⟩ := State.leaveLine_poolDone_torn (s := s.reach (d.since + 200)) (p := p) teardown
      dsimp only at notices
      rw [counted, measured, before] at notices
      exact notices
    · exact State.closingEnd_quiet (s := s.reach (d.since + 200)) platen closing placed (by omega) armed fun k same => by
        have : k = h := Fin.ext (same.symm.trans own)
        rw [this]
        exact waits
    · exact State.closingEnd_others (s := s.reach (d.since + 200)) platen closing placed armed k ne admitted

end Sys2Proof.Machine
end
